-- ==== Sys2Proof/Word.lean ====
section
/-! DEFINITION. The words of the part: bytes as they cross a pin, and 16-bit generations. -/

namespace Sys2Proof

/-- One byte of a head frame, a console frame or a payload (R196 to R199). -/
abbrev Byte := BitVec 8

/-- A wrapping 16-bit generation, compared only for equality (R10, R92, R167). -/
abbrev Gen := BitVec 16

end Sys2Proof
end

