-- ==== Sys2Proof/Syntax.lean ====
section
/-! DEFINITION. The commands: one constructor per row of spec/opcode_table.json. -/

namespace Sys2Proof

/-- A head line, and the channel, engine and tide slot of the same number (R26, R43). -/
inductive Head where
  | h0 | h1 | h2 | h3
  deriving DecidableEq, Repr

/-- A command of the part. A request carries its tag and its payload as they cross the link
(R198, R199); a character event carries its head line. -/
inductive Instr where
  -- requests of the Station Store
  | declareStation (tag : Byte) (payload : List Byte)
  | editStation (tag : Byte) (payload : List Byte)
  | readStation (tag : Byte) (payload : List Byte)
  | findName (tag : Byte) (payload : List Byte)
  | findNear (tag : Byte) (payload : List Byte)
  | findNearScanEnd
  | retireStation (tag : Byte) (payload : List Byte)
  | clearSurvey (tag : Byte) (payload : List Byte)
  -- requests on occupations
  | openOccupation (tag : Byte) (payload : List Byte)
  | forceIntegrate (tag : Byte) (payload : List Byte)
  | stopOccupation (tag : Byte) (payload : List Byte)
  | cancelOccupation (tag : Byte) (payload : List Byte)
  | readOccupation (tag : Byte) (payload : List Byte)
  | excludeOccupation (tag : Byte) (payload : List Byte)
  | includeOccupation (tag : Byte) (payload : List Byte)
  | deleteOccupation (tag : Byte) (payload : List Byte)
  -- requests on loops
  | readLoop (tag : Byte) (payload : List Byte)
  | abandonLoop (tag : Byte) (payload : List Byte)
  | releaseLoop (tag : Byte) (payload : List Byte)
  -- requests on heads
  | readHead (tag : Byte) (payload : List Byte)
  | headReset (tag : Byte) (payload : List Byte)
  -- requests on coefficients
  | stageCalibration (tag : Byte) (payload : List Byte)
  | readCalibration (tag : Byte) (payload : List Byte)
  | writeConstituent (tag : Byte) (payload : List Byte)
  | readConstituent (tag : Byte) (payload : List Byte)
  | setConstants (tag : Byte) (payload : List Byte)
  -- requests on time
  | setTime (tag : Byte) (payload : List Byte)
  | syncToPulse (tag : Byte) (payload : List Byte)
  | readTime (tag : Byte) (payload : List Byte)
  -- requests the link serves
  | readStatus (tag : Byte) (payload : List Byte)
  | clearNotices (tag : Byte) (payload : List Byte)
  | setNoticeMask (tag : Byte) (payload : List Byte)
  | linkReset (tag : Byte) (payload : List Byte)
  | unknownRequest (code tag : Byte) (payload : List Byte)
  | startupBusyAnswer (code tag : Byte) (payload : List Byte)
  -- transfers
  | badRequestFrame (mosi : List Byte)
  | fetchTransfer (clocked : Nat)
  | statusTransfer (mosi : List Byte)
  -- head lines
  | headFrame (h : Head) (last : Byte)
  | headLineCharacter (h : Head) (character : Byte)
  | characterFramingError (h : Head)
  | frameBrokenOff (h : Head)
  | headTimeout (h : Head)
  -- engines
  | settleCountReached (h : Head)
  | targetReached (h : Head)
  | settlingDeadline (h : Head)
  | capDeadline (h : Head)
  -- ends of the part's own work
  | tideEvaluationComplete
  | driftApplyComplete
  -- time
  | timePulse
  | pulseLoss
  | clockHoldAtMax
  -- supply and reset
  | partStart
  | backupLostStartup
  | resetNAssert
  | vddFail
  | backupDomainLoss
  deriving DecidableEq, Repr

end Sys2Proof
end

