-- ==== Sys2Proof/Decode.lean ====
section
/-! DEFINITION. The command that a word of the opcode table spells. The table gives no row any
bits: a request is told by its request code in a frame (`Machine.judgeFrame`), the other commands
by pins (log 21). -/

namespace Sys2Proof

/-- The command an opcode-table word spells: none, since no row has bits (log 21). -/
def decodeTableWord (_nbits _w : Nat) : Option Instr := none

end Sys2Proof
end

