-- ==== Sys2Proof/Config.lean ====
section
/-! DEFINITION. Figures fixed in the part, each with the rule that states it.
No instruction's result is left open by the spec, so no free value stands here. -/

namespace Sys2Proof.Config

/-- The largest survey time, 4,294,967,295 s 999 ms, in milliseconds (R153). -/
def maxSurveyTime : Nat := 4294967295999

/-- Where a channel's counts stop (R26). -/
def maxChannelCount : Nat := 4294967295

/-- Where an occupation record's counts stop (R45). -/
def maxRecordCount : Nat := 65535

/-- Largest response payload, and largest request payload (R183, R188). -/
def maxPayload : Nat := 512

/-- Places in a station's occupation chain (R11). -/
def chainCapacity : Nat := 16

/-- Loop entries (R112). -/
def loopEntries : Nat := 32

/-- Places in a loop's member list (R112, R117). -/
def memberCapacity : Nat := 64

/-- Fewest accepted samples a STOP keeps (R60). -/
def fewestForStop : Nat := 30

/-- Length of a tide step in seconds (R56). -/
def tideStepSeconds : Nat := 30

/-- Smallest divisor of a drift rate in seconds (R121). -/
def shortestDriftInterval : Nat := 30

/-- Pulse hold-off and pulse loss, on the time base, in ms (R157). -/
def pulseHoldOff : Nat := 900
def pulseLossAfter : Nat := 2500

/-- A pause inside a head frame that breaks it off, in ms (R29). -/
def framePause : Nat := 2

/-- A head frame's length and sync bytes (R28, R197). -/
def headFrameLength : Nat := 14
def syncFirst : Byte := 0xE5
def syncSecond : Byte := 0x1B

/-- Byte values of the console link (R198). -/
def requestMarker : Byte := 0x96
def fetchByte : Byte := 0x69
def responseMarker : Byte := 0xA9
def fillByte : Byte := 0xFF

/-- The largest distance list of FIND_NEAR (R22) and its largest radius (R20). -/
def nearestListed : Nat := 8
def maxRadius : Nat := 10000000

/-- The largest "time since" reading a response carries, in ms (R41, R160). -/
def maxReportedAge : Nat := 65535

end Sys2Proof.Config
end

