-- ==== Sys2Proof/Machine/Arithmetic.lean ====
section
/-! DEFINITION. The arithmetic conventions of 00_scope.md and the byte order of R199. -/

namespace Sys2Proof.Machine

/-- "Rounded": to nearest, halves away from zero (00_scope.md, Arithmetic conventions). -/
def roundDiv (a : Int) (b : Nat) : Int :=
  let q : Int := ((2 * a.natAbs + b) / (2 * b) : Nat)
  if a < 0 then -q else q

/-- "Clamped to lo … hi" (00_scope.md). -/
def clampInt (lo hi v : Int) : Int := if v < lo then lo else if hi < v then hi else v

/-- "Clamped to lo … hi" for counts. -/
def clampNat (lo hi v : Nat) : Nat := if v < lo then lo else if hi < v then hi else v

/-- A count that stops at `limit` and holds there (R26, R45). -/
def countUp (limit n k : Nat) : Nat := if limit < n + k then limit else n + k

/-- `n` bytes of `v`, most significant byte first (R199). -/
def beBytes : Nat → Nat → List Byte
  | 0, _ => []
  | n + 1, v => BitVec.ofNat 8 (v / 256 ^ n) :: beBytes n v

/-- `n` bytes of `v` in two's complement, most significant byte first (R199). -/
def beSignedBytes (n : Nat) (v : Int) : List Byte := beBytes n (v % (256 ^ n : Nat)).toNat

/-- The unsigned value of bytes, most significant byte first (R199). -/
def beNat : List Byte → Nat
  | [] => 0
  | b :: bs => b.toNat * 256 ^ bs.length + beNat bs

/-- The two's complement value of bytes, most significant byte first (R199). -/
def beInt (bs : List Byte) : Int :=
  if 2 * beNat bs < 256 ^ bs.length then (beNat bs : Int) else (beNat bs : Int) - (256 ^ bs.length : Nat)

/-- The `n` bytes of a payload from offset `at_` on. -/
def fieldBytes (at_ n : Nat) (p : List Byte) : List Byte := (p.drop at_).take n

/-- An unsigned field of a payload (R199). -/
def fieldNat (at_ n : Nat) (p : List Byte) : Nat := beNat (fieldBytes at_ n p)

/-- A signed field of a payload (R199). -/
def fieldInt (at_ n : Nat) (p : List Byte) : Int := beInt (fieldBytes at_ n p)

/-- A yes or no as it is sent (R199 part 1). -/
def yesNo (b : Bool) : List Byte := [if b then 1 else 0]

/-- An optional unsigned value: presence byte, then the field, 0 when absent (R199 part 3). -/
def optionalNat (n : Nat) : Option Nat → List Byte
  | some v => 1 :: beBytes n v
  | none => 0 :: beBytes n 0

/-- An optional signed value (R199 part 3). -/
def optionalInt (n : Nat) : Option Int → List Byte
  | some v => 1 :: beSignedBytes n v
  | none => 0 :: beBytes n 0

/-- An optional enumeration or loop number: one byte, 0xFF when absent (R199 part 3). -/
def optionalCode : Option Nat → List Byte
  | some v => beBytes 1 v
  | none => [0xFF]

/-- Survey time: 4 bytes of seconds, 2 bytes of milliseconds (R199 part 4). -/
def timeBytes (t : Nat) : List Byte := beBytes 4 (t / 1000) ++ beBytes 2 (t % 1000)

/-- An optional survey time. -/
def optionalTime : Option Nat → List Byte
  | some t => 1 :: timeBytes t
  | none => 0 :: beBytes 6 0

end Sys2Proof.Machine
end

