-- ==== Sys2Proof/Machine/Types.lean ====
section
/-! DEFINITION. The records and enumerations the state is made of. -/

namespace Sys2Proof.Machine

/-- One value for each of the four heads. -/
structure PerHead (α : Type) where
  h0 : α
  h1 : α
  h2 : α
  h3 : α
  deriving DecidableEq, Repr

/-- Records by slot or number, in rising key order; a FREE record is not listed. -/
abbrev Table (α : Type) := List (Nat × α)

/-- A station name: 1 to 12 folded character codes (R7). -/
abbrev Name := List Byte

/-- Survey time in milliseconds since the survey epoch: seconds are a thousandth of it (R153). -/
abbrev TimeMs := Nat

/-! ## The Station Store (01_the_station_table.md, 03_occupations.md) -/

/-- The partition in force (R1). -/
inductive Partition where
  | a | b | c
  deriving DecidableEq, Repr

/-- A station's state (R6); FREE is an unlisted slot. -/
inductive StationState where
  | declared | provisional | adopted
  deriving DecidableEq, Repr

/-- A station's role (R5). -/
inductive Role where
  | base | field
  deriving DecidableEq, Repr

/-- A station record (R5). -/
structure Station where
  state : StationState
  name : Name
  role : Role
  /-- µdeg -/
  latitude : Int
  /-- µdeg -/
  longitude : Int
  coordGen : Gen
  /-- occupation numbers, in order of opening (R11) -/
  chain : List Nat
  /-- nm/s² -/
  adopted : Option Int
  /-- nm/s² -/
  spread : Option Int
  weightTotal : Nat
  discordant : Bool
  valueStale : Bool
  deriving DecidableEq, Repr

/-- The four rate classes (R31). -/
inductive RateClass where
  | one | two | five | ten
  deriving DecidableEq, Repr

/-- Why an occupation failed (R65). -/
inductive FailCause where
  | unsettled | short | noisy | rateChange | cancelled | headReset | interrupted
  deriving DecidableEq, Repr

/-- An occupation record's state; FREE is an unlisted number (R45). -/
inductive OccState where
  | opened
  | closed
  | failed (cause : FailCause)
  deriving DecidableEq, Repr

/-- The grade of a closed occupation; its weight is `Grade.weight` (R62). -/
inductive Grade where
  | a | b | c
  deriving DecidableEq, Repr

/-- The counts of an occupation record (R45). -/
structure OccCounts where
  accepted : Nat
  extended : Nat
  clamped : Nat
  thermal : Nat
  tilt : Nat
  offscale : Nat
  corrupt : Nat
  gap : Nat
  deriving DecidableEq, Repr

/-- A tide value with the generations it was computed with (R45, R105). -/
structure TideValue where
  /-- tide correction, nm/s² -/
  tide : Int
  coordGen : Gen
  tableGen : Gen
  deriving DecidableEq, Repr

/-- One step of an occupation's step list (R45, R56). -/
structure TideStep where
  index : Nat
  count : Nat
  value : Option TideValue
  deriving DecidableEq, Repr

/-- An occupation record (R45). -/
structure Occupation where
  station : Nat
  head : Head
  state : OccState
  included : Bool
  openedAt : TimeMs
  rate : RateClass
  /-- granted duration, s -/
  granted : Nat
  target : Nat
  calGen : Gen
  counts : OccCounts
  steps : List TideStep
  grade : Option Grade
  /-- whole seconds -/
  midTime : Option Nat
  /-- reading mean S̄, nm/s² -/
  readingMean : Option Int
  /-- tide mean T̄, nm/s² -/
  tideMean : Option Int
  tideStale : Bool
  /-- drift term D, nm/s² -/
  drift : Option Int
  driftFrozen : Bool
  driftLoop : Option Nat
  anchorsLoop : Option Nat
  /-- value V, nm/s² -/
  value : Option Int
  deriving DecidableEq, Repr

/-! ## The Drift Unit (06_drift_loops.md) -/

/-- A loop's state (R113); a free entry is an unlisted number. -/
inductive LoopState where
  | opened | closing | closed | suspect
  deriving DecidableEq, Repr

/-- A loop record (R112). -/
structure Loop where
  head : Head
  state : LoopState
  base : Nat
  opener : Nat
  closer : Option Nat
  calGen : Gen
  /-- Q16, 1/65,536 nm/s² per second -/
  rate : Option Int
  members : List Nat
  deriving DecidableEq, Repr

/-! ## The Coefficient Store and the Factory Block (09, 05) -/

/-- A breakpoint of a scale table (R73). -/
structure Breakpoint where
  count : Nat
  /-- nm/s² -/
  gravity : Nat
  deriving DecidableEq, Repr

/-- A head calibration set (R163). -/
structure CalibrationSet where
  table : List Breakpoint
  tiltZeroX : Int
  tiltZeroY : Int
  tiltGainX : Nat
  tiltGainY : Nat
  tiltWindow : Nat
  settleWindow : Nat
  tempZero : Int
  bandN : Nat
  bandE : Nat
  kN : Int
  kE : Int
  settleCount : Nat
  /-- s -/
  settlingTimeout : Nat
  /-- tenths of a second -/
  headTimeout : Nat
  deriving DecidableEq, Repr

/-- The survey constants (R169). -/
structure SurveyConstants where
  /-- Q16 -/
  driftLimit : Nat
  /-- nm/s² -/
  spreadLimit : Nat
  /-- ms -/
  pulseTolerance : Nat
  deriving DecidableEq, Repr

/-- A constituent's species (R91). -/
inductive Species where
  | longPeriod | diurnal | semidiurnal
  deriving DecidableEq, Repr

/-- An entry of the constituent table (R91). -/
structure Constituent where
  enabled : Bool
  species : Species
  /-- 2⁻⁴⁸ turn per second, below 2⁴⁸ -/
  speed : Nat
  /-- phase at epoch, binary angle below 2³² -/
  v0 : Nat
  /-- nm/s² -/
  amplitude : Int
  /-- gravimetric factor, Q14 -/
  delta : Nat
  deriving DecidableEq, Repr

/-- The Factory Block (R176). -/
structure FactoryBlock where
  constituents : List Constituent
  constants : SurveyConstants
  template : CalibrationSet
  crc : BitVec 16
  deriving DecidableEq, Repr

/-! ## Head Intake (02_head_lines_and_sample_screening.md) -/

/-- A head's state (R32). -/
inductive HeadState where
  | absent | live | clamped | lost
  deriving DecidableEq, Repr

/-- A sample's temperature regime (R35). -/
inductive Regime where
  | normal | extended | out
  deriving DecidableEq, Repr

/-- A sample's verdict (R37). -/
inductive Verdict where
  | accepted | clamped | thermal | tilt | offscale
  deriving DecidableEq, Repr

/-- The sample record (R39). -/
structure Sample where
  sequence : Byte
  rate : RateClass
  count : Nat
  /-- tilt units -/
  ux : Int
  /-- tilt units -/
  uy : Int
  /-- temperature deviation, 0.1 mK -/
  deltaT : Int
  regime : Regime
  clampFlag : Bool
  heaterFault : Bool
  time : Option TimeMs
  verdict : Verdict
  deriving DecidableEq, Repr

/-- The receiver's phase (R26). -/
inductive ReceiverPhase where
  | hunting | collecting
  deriving DecidableEq, Repr

/-- The receiver of a head line (R26, R28). -/
structure Receiver where
  phase : ReceiverPhase
  held : List Byte
  deriving DecidableEq, Repr

/-- A Head Intake channel (R26). -/
structure Channel where
  state : HeadState
  receiver : Receiver
  /-- time base at the last character, for the 2 ms limit of R29 -/
  lastCharacter : Option Nat
  rate : Option RateClass
  lastSequence : Option Byte
  /-- time base at the last valid frame -/
  lastValid : Option Nat
  corrupt : Nat
  gap : Nat
  accepted : Nat
  rejectedClamped : Nat
  rejectedThermal : Nat
  rejectedTilt : Nat
  rejectedOffscale : Nat
  lastSample : Option Sample
  deriving DecidableEq, Repr

/-! ## Occupation Engines (03_occupations.md) -/

/-- How integration ended (R43). -/
inductive Ending where
  | target | stop | cap
  deriving DecidableEq, Repr

/-- A step with no tide value yet (R43, R56). -/
structure OwedStep where
  index : Nat
  requested : Bool
  deriving DecidableEq, Repr

/-- What an engine holds outside IDLE (R43). -/
structure Session where
  occupation : Nat
  station : Nat
  rate : RateClass
  /-- granted duration, s -/
  granted : Nat
  target : Nat
  deriving DecidableEq, Repr

/-- What an engine holds in INTEGRATING and REDUCING (R43). -/
structure Integration where
  start : TimeMs
  capDeadline : TimeMs
  /-- ΣS, nm/s² -/
  readingSum : Int
  /-- sum of sample times, ms -/
  timeSum : Nat
  owed : List OwedStep
  deriving DecidableEq, Repr

/-- An Occupation Engine (R43). -/
inductive Engine where
  | idle
  | settling (w : Session) (counter : Nat) (deadline : TimeMs)
  | integrating (w : Session) (g : Integration)
  | reducing (w : Session) (g : Integration) (ending : Ending) (grade : Grade)
  deriving DecidableEq, Repr

/-! ## The Tide Engine (05_the_tide_engine.md) -/

/-- Who placed a request (R102). -/
inductive TideSource where
  | head (h : Head)
  | revision
  deriving DecidableEq, Repr

/-- A tide request (R102). -/
structure TideRequest where
  target : Nat
  step : Nat
  /-- evaluation instant, s -/
  instant : Nat
  latitude : Int
  longitude : Int
  coordGen : Gen
  deriving DecidableEq, Repr

/-- A request slot (R90). -/
inductive Slot where
  | empty
  | waiting (r : TideRequest)
  | evaluating (r : TideRequest)
  deriving DecidableEq, Repr

/-- The evaluation in flight, with its copies (R90, R104). -/
structure Evaluation where
  source : TideSource
  request : TideRequest
  constituents : List Constituent
  tableGen : Gen
  isVoid : Bool
  deriving DecidableEq, Repr

/-- The Tide Engine (R90). -/
structure TideEngine where
  headSlots : PerHead Slot
  revisionSlot : Slot
  /-- the sources whose slot is WAITING, in order of placement -/
  placed : List TideSource
  evaluation : Option Evaluation
  deriving DecidableEq, Repr

/-! ## The Revision Engine (07_revision_and_station_values.md) -/

/-- A revision item's kind (R134). -/
inductive RevKind where
  | tideRedo | driftApply | stationValue
  deriving DecidableEq, Repr

/-- A revision item (R134). -/
structure RevItem where
  kind : RevKind
  target : Nat
  deriving DecidableEq, Repr

/-- A tide result held by a TIDE_REDO item (R133, R139). -/
structure HeldResult where
  step : Nat
  value : TideValue
  deriving DecidableEq, Repr

/-- The item in flight, with its working state (R133). A STATION_VALUE item is processed as
soon as it is taken (R144) and is never in flight between steps. -/
inductive InFlight where
  /-- `awaited` are the step indices still wanted, the first being waited on -/
  | tideRedo (occupation : Nat) (held : List HeldResult) (awaited : List Nat)
  /-- `walked` members of the list have been passed -/
  | driftApply (loop : Nat) (walked : Nat)
  deriving DecidableEq, Repr

/-! ## Pulse Monitor and Console Link (08, 10) -/

/-- The Pulse Monitor (R157). -/
structure PulseMonitor where
  pulsing : Bool
  /-- time base at the last accepted pulse -/
  lastPulse : Option Nat
  /-- last pulse offset, ms -/
  offset : Option Int
  /-- pending pulse-synchronised set, s -/
  pendingSet : Option Nat
  deriving DecidableEq, Repr

/-- A request as it stands in the link's slot (R180). -/
structure Request where
  code : Byte
  tag : Byte
  payload : List Byte
  deriving DecidableEq, Repr

/-- The link state, with the slot in WORKING and the buffer in ANSWERED (R180). -/
inductive LinkState where
  | idle
  | working (request : Request)
  | answered (frame : List Byte)
  deriving DecidableEq, Repr

/-- A prepared FIND_NEAR query (R20). -/
structure NearQuery where
  latitude : Int
  longitude : Int
  radius : Nat
  /-- the scale factor c, Q15 -/
  cosine : Int
  deriving DecidableEq, Repr

/-- The response codes (R186). -/
inductive ResponseCode where
  | done | unknownRequest | badField | notFound | nameTaken | tableFull | chainFull | busy
  | inUse | headDown | clockUnset | wrongState
  deriving DecidableEq, Repr

/-- An owner's answer: a response code and a payload (R186). -/
structure Answer where
  code : ResponseCode
  payload : List Byte
  deriving DecidableEq, Repr

/-- The notices (R189). -/
inductive Notice where
  | headLost (h : Head)
  | occEnded (h : Head)
  | loopClosed | loopSuspect | loopRefused | stationDiscordant | revisionIdle
  | pulseOffset | pulseLost | calibrationApplied | restarted | backupLost | factoryBad
  deriving DecidableEq, Repr

/-- One flag for each of the 19 notices, by the positions of R199. -/
abbrev NoticeSet := BitVec 19

end Sys2Proof.Machine
end

