-- ==== Sys2Proof/Machine/Reduction.lean ====
section
/-! DEFINITION. Conversion and screening of a sample (R34 to R37), its reduction (R73 to R83),
the integration profile (R48) and the judgement of an integration (R62). -/

namespace Sys2Proof.Machine

/-! ## Conversion and screening -/

/-- A rate class in frames per second (R31). -/
def RateClass.perSecond : RateClass → Nat
  | .one => 1
  | .two => 2
  | .five => 5
  | .ten => 10

/-- The rate class of a control byte: bits 7 and 6 (R197). -/
def RateClass.ofControl (control : Byte) : RateClass :=
  match control.toNat / 64 with
  | 0 => .one
  | 1 => .two
  | 2 => .five
  | _ => .ten

/-- A tilt axis in tilt units (R34). -/
def convertTilt (c zero : Int) (gain : Nat) : Int :=
  clampInt (-32767) 32767 (roundDiv ((c - zero) * gain) 256)

/-- The temperature deviation (R35). -/
def convertTemperature (raw zero : Int) : Int := clampInt (-32767) 32767 (raw - zero)

/-- The regime of a deviation (R35). -/
def regimeOf (set : CalibrationSet) (deltaT : Int) : Regime :=
  if deltaT.natAbs ≤ set.bandN then .normal
  else if deltaT.natAbs ≤ set.bandE then .extended
  else .out

/-- The first and last breakpoint counts of a scale table (R37, R73). -/
def CalibrationSet.firstCount (set : CalibrationSet) : Nat := (set.table.head?.map (·.count)).getD 0
def CalibrationSet.lastCount (set : CalibrationSet) : Nat := (set.table.getLast?.map (·.count)).getD 0

/-- Screening, in the order of R37. -/
def screen (set : CalibrationSet) (clampFlag heaterFault : Bool) (regime : Regime) (ux uy : Int)
    (count : Nat) : Verdict :=
  if clampFlag then .clamped
  else if heaterFault || regime == .out then .thermal
  else if set.tiltWindow < ux.natAbs ∨ set.tiltWindow < uy.natAbs then .tilt
  else if count < set.firstCount ∨ set.lastCount < count then .offscale
  else .accepted

/-- The sample of a valid head frame's 14 bytes, converted and screened with one set and stamped
with the survey time (R34 to R39, R197). -/
def sampleOf (set : CalibrationSet) (time : Option TimeMs) (frame : List Byte) : Sample :=
  let control := frame.getD 2 0
  let ux := convertTilt (fieldInt 7 2 frame) set.tiltZeroX set.tiltGainX
  let uy := convertTilt (fieldInt 9 2 frame) set.tiltZeroY set.tiltGainY
  let deltaT := convertTemperature (fieldInt 11 2 frame) set.tempZero
  let count := fieldNat 4 3 frame
  { sequence := frame.getD 3 0
    rate := .ofControl control
    count := count
    ux := ux
    uy := uy
    deltaT := deltaT
    regime := regimeOf set deltaT
    clampFlag := control.getLsbD 5
    heaterFault := control.getLsbD 4
    time := time
    verdict := screen set (control.getLsbD 5) (control.getLsbD 4) (regimeOf set deltaT) ux uy count }

/-! ## The per-sample value -/

/-- The gravity of a count on a scale table: the lowest segment that holds it (R74, R75).
A count outside the table does not reach reduction (R76). -/
def scaleGravity (c : Nat) : List Breakpoint → Int
  | p :: q :: rest =>
    if p.count ≤ c ∧ c ≤ q.count then
      (p.gravity : Int)
        + roundDiv (((c : Int) - p.count) * ((q.gravity : Int) - p.gravity)) (q.count - p.count)
    else scaleGravity c (q :: rest)
  | [p] => p.gravity
  | [] => 0

/-- The tilt correction (R77). -/
def tiltCorrection (ux uy : Int) : Int :=
  (((ux.natAbs * ux.natAbs + uy.natAbs * uy.natAbs) * 823 + 8388608) / 16777216 : Nat)

/-- The temperature correction (R80, R81). An OUT sample does not reach reduction (R79). -/
def temperatureCorrection (set : CalibrationSet) (regime : Regime) (deltaT : Int) : Int :=
  let s : Int := if 0 < deltaT then 1 else -1
  match regime with
  | .normal => -roundDiv (deltaT * set.kN) 256
  | .extended | .out =>
    -roundDiv (s * set.bandN * set.kN + (deltaT - s * set.bandN) * set.kE) 256

/-- The per-sample value S (R83). -/
def sampleValue (set : CalibrationSet) (x : Sample) : Int :=
  scaleGravity x.count set.table + tiltCorrection x.ux x.uy
    + temperatureCorrection set x.regime x.deltaT

/-! ## The integration profile -/

/-- The supported durations of a rate class, rising (R48). -/
def supportedDurations (rate : RateClass) : List Nat :=
  [30, 60, 120, 180, 300, 450, 600].filter fun d =>
    decide (60 ≤ d * rate.perSecond ∧ d * rate.perSecond ≤ 3000)

/-- The granted duration: the smallest supported one not less than the request, or else the
largest (R48). -/
def grantedDuration (rate : RateClass) (requested : Nat) : Nat :=
  match (supportedDurations rate).find? fun d => decide (requested ≤ d) with
  | some d => d
  | none => (supportedDurations rate).getLast?.getD 0

/-! ## The judgement of an integration -/

/-- A grade's weight (R62). -/
def Grade.weight : Grade → Nat
  | .a => 4
  | .b => 2
  | .c => 1

/-- The sum R of the four rejection counts (R62). -/
def OccCounts.rejected (k : OccCounts) : Nat := k.clamped + k.thermal + k.tilt + k.offscale

/-- The judgement at the end of integration: a grade, or none for NOISY (R62). -/
def judge (ending : Ending) (k : OccCounts) : Option Grade :=
  let n := k.accepted + k.rejected
  if 2 * n < 5 * k.rejected then none
  else if n < 10 * k.rejected ∨ ending = .cap then some .c
  else if k.extended = 0 then some .a
  else some .b

/-! ## The means and the drift arithmetic -/

/-- Σ (count_k × T_k) over a step list (R86). -/
def weightedTide : List TideStep → Int
  | [] => 0
  | k :: ks => (k.count : Int) * (k.value.map (·.tide)).getD 0 + weightedTide ks

/-- The tide mean over a step list of `n` samples (R86). -/
def tideMeanOf (steps : List TideStep) (n : Nat) : Int := roundDiv (weightedTide steps) n

/-- The divisor of a drift rate (R121). -/
def driftInterval (ta tb : Nat) : Nat :=
  if ta + Config.shortestDriftInterval ≤ tb then tb - ta else Config.shortestDriftInterval

/-- The drift rate before the limit (R121). -/
def driftRate (va vb : Int) (ta tb : Nat) : Int :=
  roundDiv ((vb - va) * 65536) (driftInterval ta tb)

/-- The rate as stored and the loop state it gives (R122). -/
def limitRate (limit : Nat) (ta tb : Nat) (r : Int) : Int × LoopState :=
  if limit < r.natAbs then (clampInt (-limit) limit r, .suspect)
  else if ta + Config.shortestDriftInterval ≤ tb then (r, .closed)
  else (r, .suspect)

/-- A drift term (R123). -/
def driftTerm (r : Int) (ta tm : Nat) : Int := roundDiv (r * ((tm : Int) - ta)) 65536

end Sys2Proof.Machine
end

