-- ==== Sys2Proof/Machine/CheckCodes.lean ====
section
/-! DEFINITION. The two check codes (R196). -/

namespace Sys2Proof.Machine

/-- One shift of the register: a 1 carried out of the top brings in the generator (R196 part 2). -/
def crcShift {w : Nat} (generator r : BitVec w) : BitVec w :=
  if r.msb then (r <<< 1) ^^^ generator else r <<< 1

/-- `n` shifts. -/
def crcShifts {w : Nat} (generator : BitVec w) : Nat → BitVec w → BitVec w
  | 0, r => r
  | n + 1, r => crcShifts generator n (crcShift generator r)

/-- The CRC-8 register after one more byte: generator 0x07 (R196). -/
def crc8Byte (r : BitVec 8) (b : Byte) : BitVec 8 := crcShifts 0x07 8 (r ^^^ b)

/-- The CRC-8 of bytes: initial value 0x00 (R196). -/
def crc8 (bs : List Byte) : BitVec 8 := bs.foldl crc8Byte 0

/-- The CRC-16 register after one more byte: generator 0x1021 (R196). -/
def crc16Byte (r : BitVec 16) (b : Byte) : BitVec 16 :=
  crcShifts 0x1021 8 (r ^^^ (b.zeroExtend 16 <<< 8))

/-- The CRC-16 of bytes: initial value 0xFFFF (R196). -/
def crc16 (bs : List Byte) : BitVec 16 := bs.foldl crc16Byte 0xFFFF

end Sys2Proof.Machine
end

