-- ==== Sys2Proof/Machine/EnumCodes.lean ====
section
/-! DEFINITION. The codes of the enumerations (R198, R199). -/

namespace Sys2Proof

def Head.code : Head → Nat
  | .h0 => 0
  | .h1 => 1
  | .h2 => 2
  | .h3 => 3

/-- A received head number; above 3 it is BAD_FIELD (R40, R41, R47). -/
def Head.ofCode (b : Byte) : Option Head :=
  match b.toNat with
  | 0 => some .h0
  | 1 => some .h1
  | 2 => some .h2
  | 3 => some .h3
  | _ => none

end Sys2Proof

namespace Sys2Proof.Machine

/-- FREE 0 is an unlisted slot; a record is DECLARED 1, PROVISIONAL 2 or ADOPTED 3 (R199). -/
def StationState.code : StationState → Nat
  | .declared => 1
  | .provisional => 2
  | .adopted => 3

def Role.code : Role → Nat
  | .base => 0
  | .field => 1

/-- A received role; another code is BAD_FIELD (R199 part 5). -/
def Role.ofCode (b : Byte) : Option Role :=
  match b.toNat with
  | 0 => some .base
  | 1 => some .field
  | _ => none

def Partition.code : Partition → Nat
  | .a => 1
  | .b => 2
  | .c => 3

/-- A received partition (R199 part 5). -/
def Partition.ofCode (b : Byte) : Option Partition :=
  match b.toNat with
  | 1 => some .a
  | 2 => some .b
  | 3 => some .c
  | _ => none

def OccState.code : OccState → Nat
  | .opened => 0
  | .closed => 1
  | .failed _ => 2

def FailCause.code : FailCause → Nat
  | .unsettled => 0
  | .short => 1
  | .noisy => 2
  | .rateChange => 3
  | .cancelled => 4
  | .headReset => 5
  | .interrupted => 6

/-- The cause is present in FAILED only (R45). -/
def OccState.cause? : OccState → Option FailCause
  | .failed c => some c
  | _ => none

def Engine.code : Engine → Nat
  | .idle => 0
  | .settling .. => 1
  | .integrating .. => 2
  | .reducing .. => 3

def Grade.code : Grade → Nat
  | .a => 0
  | .b => 1
  | .c => 2

def LoopState.code : LoopState → Nat
  | .opened => 0
  | .closing => 1
  | .closed => 2
  | .suspect => 3

def HeadState.code : HeadState → Nat
  | .absent => 0
  | .live => 1
  | .clamped => 2
  | .lost => 3

def Regime.code : Regime → Nat
  | .normal => 0
  | .extended => 1
  | .out => 2

def Verdict.code : Verdict → Nat
  | .accepted => 0
  | .clamped => 1
  | .thermal => 2
  | .tilt => 3
  | .offscale => 4

def RevKind.code : RevKind → Nat
  | .tideRedo => 0
  | .driftApply => 1
  | .stationValue => 2

def Species.code : Species → Nat
  | .longPeriod => 0
  | .diurnal => 1
  | .semidiurnal => 2

/-- A received species (R108 part 2). -/
def Species.ofCode (b : Byte) : Option Species :=
  match b.toNat with
  | 0 => some .longPeriod
  | 1 => some .diurnal
  | 2 => some .semidiurnal
  | _ => none

/-- The numbers of the response codes (R198). -/
def ResponseCode.code : ResponseCode → Nat
  | .done => 0
  | .unknownRequest => 1
  | .badField => 2
  | .notFound => 3
  | .nameTaken => 4
  | .tableFull => 5
  | .chainFull => 6
  | .busy => 7
  | .inUse => 8
  | .headDown => 9
  | .clockUnset => 10
  | .wrongState => 11

/-- A notice's position (R199). -/
def Notice.position : Notice → Nat
  | .headLost h => h.code
  | .occEnded h => 4 + h.code
  | .loopClosed => 8
  | .loopSuspect => 9
  | .loopRefused => 10
  | .stationDiscordant => 11
  | .revisionIdle => 12
  | .pulseOffset => 13
  | .pulseLost => 14
  | .calibrationApplied => 15
  | .restarted => 16
  | .backupLost => 17
  | .factoryBad => 18

/-- The set that holds one notice. -/
def Notice.flag (n : Notice) : NoticeSet := 1#19 <<< n.position

/-- Stations and occupations of a partition (R1). -/
def Partition.slots : Partition → Nat
  | .a => 320
  | .b => 640
  | .c => 160

def Partition.records : Partition → Nat
  | .a => 1536
  | .b => 1024
  | .c => 1792

/-- The Revision Queue's capacity (R1, R134). -/
def Partition.queueCapacity (p : Partition) : Nat := p.slots + p.records + 32

end Sys2Proof.Machine
end

