-- ==== Sys2Proof/Machine/Defaults.lean ====
section
/-! DEFINITION. The Factory Block, the fixed logic's defaults, and the layouts the block's
CRC-16 covers (R176, R177, R196, R199). -/

namespace Sys2Proof.Machine

/-! ## Layouts shared by requests, responses and the Factory Block -/

/-- An entry of the constituent table, from the enabled flag to δ (R199, WRITE_CONSTITUENT). -/
def constituentBytes (c : Constituent) : List Byte :=
  yesNo c.enabled ++ beBytes 1 c.species.code ++ beBytes 6 c.speed ++ beBytes 4 c.v0
    ++ beSignedBytes 2 c.amplitude ++ beBytes 2 c.delta

/-- A breakpoint: count 3, gravity 4 (R199). -/
def breakpointBytes (p : Breakpoint) : List Byte := beBytes 3 p.count ++ beBytes 4 p.gravity

/-- A calibration set in the STAGE_CALIBRATION order without the head byte (R199). -/
def calibrationBytes (s : CalibrationSet) : List Byte :=
  beSignedBytes 2 s.tiltZeroX ++ beSignedBytes 2 s.tiltZeroY
    ++ beBytes 2 s.tiltGainX ++ beBytes 2 s.tiltGainY
    ++ beBytes 2 s.tiltWindow ++ beBytes 2 s.settleWindow
    ++ beSignedBytes 2 s.tempZero ++ beBytes 2 s.bandN ++ beBytes 2 s.bandE
    ++ beSignedBytes 2 s.kN ++ beSignedBytes 2 s.kE
    ++ beBytes 2 s.settleCount ++ beBytes 2 s.settlingTimeout ++ beBytes 1 s.headTimeout
    ++ beBytes 1 s.table.length ++ s.table.flatMap breakpointBytes

/-- The three constants: 4, 4 and 2 bytes (R199, SET_CONSTANTS). -/
def constantsBytes (c : SurveyConstants) : List Byte :=
  beBytes 4 c.driftLimit ++ beBytes 4 c.spreadLimit ++ beBytes 2 c.pulseTolerance

/-- Constituents in index order, each with its index, from `k` on (R196). -/
def indexedConstituentBytes (k : Nat) : List Constituent → List Byte
  | [] => []
  | c :: cs => beBytes 1 k ++ constituentBytes c ++ indexedConstituentBytes (k + 1) cs

/-- What the Factory Block's CRC-16 covers: constituents, constants with every presence mark 1,
template (R196). DESIGN CHOICE: the other bits of the presence mask, 3 to 7, are covered as 0, the
whole byte as 7 (log 27). -/
def FactoryBlock.covered (f : FactoryBlock) : List Byte :=
  indexedConstituentBytes 0 f.constituents ++ (7 :: constantsBytes f.constants)
    ++ calibrationBytes f.template

/-- The check of the Factory Block at part 4 of the backup-lost start-up (R175, R176). -/
def FactoryBlock.good (f : FactoryBlock) : Bool := crc16 f.covered == f.crc

/-! ## The defaults -/

/-- A stored speed from a speed in 10⁻⁷ °/h: w = round(speed × 2⁴⁸ / 1,296,000) (R91). -/
def storedSpeed (tenMillionths : Nat) : Nat :=
  (roundDiv ((tenMillionths : Int) * 281474976710656) 12960000000000).toNat

/-- An entry of the default table: V0 0 and δ 19,005 (R176). -/
def defaultEntry (enabled : Bool) (species : Species) (speed : Nat) (amplitude : Int) : Constituent :=
  { enabled := enabled, species := species, speed := storedSpeed speed, v0 := 0
    amplitude := amplitude, delta := 19005 }

/-- The default constituent table (R176). -/
def defaultConstituents : List Constituent :=
  [defaultEntry true .semidiurnal 289841042 759,
   defaultEntry true .semidiurnal 300000000 353,
   defaultEntry true .semidiurnal 284397295 145,
   defaultEntry true .semidiurnal 300821373 96,
   defaultEntry true .diurnal 150410686 530,
   defaultEntry true .diurnal 139430356 377,
   defaultEntry true .diurnal 149589314 176,
   defaultEntry true .diurnal 133986609 72,
   defaultEntry true .longPeriod 10980331 167,
   defaultEntry true .longPeriod 5443747 88,
   defaultEntry true .longPeriod 821373 78,
   defaultEntry false .longPeriod 0 0]

/-- The constituent table of the fixed logic: every entry disabled (R177). -/
def disabledConstituents : List Constituent :=
  List.replicate 12 (defaultEntry false .longPeriod 0 0)

/-- The default survey constants (R169, R176, R177). -/
def defaultConstants : SurveyConstants :=
  { driftLimit := 13107, spreadLimit := 100, pulseTolerance := 20 }

/-- The calibration template (R163). -/
def calibrationTemplate : CalibrationSet :=
  { table := [⟨0, 0⟩, ⟨16777215, 83886075⟩]
    tiltZeroX := 0, tiltZeroY := 0, tiltGainX := 256, tiltGainY := 256
    tiltWindow := 2000, settleWindow := 500, tempZero := 0, bandN := 50, bandE := 500
    kN := 0, kE := 0, settleCount := 100, settlingTimeout := 300, headTimeout := 20 }

/-- The Factory Block's content before its check code is put in. -/
def factoryContent : FactoryBlock :=
  { constituents := defaultConstituents, constants := defaultConstants
    template := calibrationTemplate, crc := 0 }

/-- The Factory Block as programmed at manufacture, its CRC-16 matching its content (R176, log 20). -/
def factoryBlock : FactoryBlock := { factoryContent with crc := crc16 factoryContent.covered }

end Sys2Proof.Machine
end

