-- ==== Sys2Proof/Machine/State.lean ====
section
/-! DEFINITION. The state of the part, and the state after reset. -/

namespace Sys2Proof.Machine

/-- Why the machine stops with a fault. The spec gives the part no event that stops it: refused
requests are answered (R186) and bad frames are discarded (R183), so there is no constructor. -/
inductive Fault where
  deriving DecidableEq, Repr

/-- Why the model has no meaning for a command. -/
inductive Refusal where
  /-- Raised by an arm of `exec` for a row with no meaning yet (safe). No arm raises it. -/
  | notModelled (mnemonic : String)
  deriving DecidableEq, Repr

/-- The same value for the four heads. -/
def perHead {α : Type} (a : α) : PerHead α := ⟨a, a, a, a⟩

/-- The whole state of the part. -/
structure State where
  -- backup domain: Station Store, Loop Table
  partition : Partition
  stations : Table Station
  nameIndex : Table Name
  occupations : Table Occupation
  loops : Table Loop
  -- backup domain: Coefficient Store
  active : PerHead CalibrationSet
  staged : PerHead (Option CalibrationSet)
  calGen : PerHead Gen
  constituents : List Constituent
  tableGen : Gen
  constants : SurveyConstants
  -- backup domain: Survey Clock (absent: UNSET), notice mask, backup-valid marker
  clock : Option TimeMs
  noticeMask : NoticeSet
  backupValid : Bool
  -- one-time programmed
  factory : FactoryBlock
  -- main domain
  channels : PerHead Channel
  engines : PerHead Engine
  tide : TideEngine
  revQueue : List RevItem
  inFlight : Option InFlight
  pulse : PulseMonitor
  timeBase : Nat
  link : LinkState
  lastRejected : Bool
  notices : NoticeSet
  scan : Option NearQuery
  startup : Bool
  -- pins
  vdd : Bool
  resetLow : Bool
  miso : List Byte
  -- the commands that are waiting
  pending : List Instr
  deriving DecidableEq, Repr

/-- A channel at every start: ABSENT, HUNTING, counts 0 (R42, R173). -/
def Channel.reset : Channel :=
  { state := .absent, receiver := ⟨.hunting, []⟩, lastCharacter := none, rate := none
    lastSequence := none, lastValid := none, corrupt := 0, gap := 0, accepted := 0
    rejectedClamped := 0, rejectedThermal := 0, rejectedTilt := 0, rejectedOffscale := 0
    lastSample := none }

/-- The Tide Engine at every start: slots EMPTY, no evaluation (R111, R173). -/
def TideEngine.reset : TideEngine :=
  { headSlots := perHead .empty, revisionSlot := .empty, placed := [], evaluation := none }

/-- The Pulse Monitor at every start: NO_PULSE, no pending set, no offset (R161, R173). -/
def PulseMonitor.reset : PulseMonitor :=
  { pulsing := false, lastPulse := none, offset := none, pendingSet := none }

/-- The state after a power-on with the backup domain lost and a good Factory Block, its
start-up sequence ended (R25, R42, R71, R111, R132, R151, R161, R175, R179, R195; log 1). -/
def State.reset : State :=
  { partition := .a, stations := [], nameIndex := [], occupations := [], loops := []
    active := perHead calibrationTemplate, staged := perHead none, calGen := perHead 0
    constituents := defaultConstituents, tableGen := 0, constants := defaultConstants
    clock := none, noticeMask := BitVec.allOnes 19, backupValid := true
    factory := factoryBlock
    channels := perHead .reset, engines := perHead .idle, tide := .reset
    revQueue := [], inFlight := none, pulse := .reset, timeBase := 0
    link := .idle, lastRejected := false, notices := Notice.backupLost.flag, scan := none
    startup := false, vdd := true, resetLow := false, miso := [], pending := [] }

end Sys2Proof.Machine
end

