-- ==== Sys2Proof/Machine/Ops.lean ====
section
/-! DEFINITION. The named operations on tables, per-head values and the fields of the state. -/

namespace Sys2Proof.Machine

/-! ## Per-head values -/

def PerHead.get {α : Type} (p : PerHead α) : Head → α
  | .h0 => p.h0
  | .h1 => p.h1
  | .h2 => p.h2
  | .h3 => p.h3

def PerHead.set {α : Type} (p : PerHead α) (h : Head) (a : α) : PerHead α :=
  match h with
  | .h0 => { p with h0 := a }
  | .h1 => { p with h1 := a }
  | .h2 => { p with h2 := a }
  | .h3 => { p with h3 := a }

/-- The four heads in order. -/
def allHeads : List Head := [.h0, .h1, .h2, .h3]

/-! ## Tables of records: a FREE record is not listed, and the listed keys rise -/

namespace Table

variable {α : Type}

/-- The record of a key, or none when it is FREE. -/
def get : Table α → Nat → Option α
  | [], _ => none
  | (k', v) :: t, k => if k = k' then some v else get t k

/-- The table with a record put at a key, keys kept rising. -/
def put : Table α → Nat → α → Table α
  | [], k, v => [(k, v)]
  | (k', v') :: t, k, v =>
    if k < k' then (k, v) :: (k', v') :: t
    else if k = k' then (k, v) :: t
    else (k', v') :: put t k v

/-- The table with a key's record FREE. -/
def del (t : Table α) (k : Nat) : Table α := t.filter fun e => e.1 != k

/-- The table with a key's record, if it has one, changed. -/
def modify (t : Table α) (k : Nat) (f : α → α) : Table α :=
  t.map fun e => if e.1 = k then (e.1, f e.2) else e

/-- The table with the records of several keys changed. -/
def modifyKeys (t : Table α) (ks : List Nat) (f : α → α) : Table α :=
  t.map fun e => if e.1 ∈ ks then (e.1, f e.2) else e

/-- The table with every record changed. -/
def modifyAll (t : Table α) (f : α → α) : Table α := t.map fun e => (e.1, f e.2)

/-- The keys whose record satisfies a test, in rising order. -/
def keysWhere (t : Table α) (p : α → Bool) : List Nat := (t.filter fun e => p e.2).map (·.1)

/-- The lowest FREE key among `n` keys from `k` on. -/
def firstFreeFrom (t : Table α) : Nat → Nat → Option Nat
  | 0, _ => none
  | n + 1, k => if (get t k).isNone then some k else firstFreeFrom t n (k + 1)

/-- The lowest FREE key below a limit (R2, R14, R112). -/
def firstFree (t : Table α) (limit : Nat) : Option Nat := firstFreeFrom t limit 0

/-- The canonical form: keys strictly rising. -/
abbrev wf (t : Table α) : Prop := (t.map (·.1)).Pairwise (· < ·)

end Table

/-! ## Fields of the state -/

/-- The number of a head's OPEN loop and the loop, if the head has one (R115, R119). -/
def State.openLoop (s : State) (h : Head) : Option (Nat × Loop) :=
  s.loops.find? fun e => e.2.head == h && e.2.state == .opened

/-- Some occupation on some head is OPEN (R3, R155). -/
def State.anyOpen (s : State) : Bool := s.occupations.any fun e => e.2.state == .opened

def State.modifyStation (s : State) (k : Nat) (f : Station → Station) : State :=
  { s with stations := Table.modify s.stations k f }

def State.modifyOccupation (s : State) (k : Nat) (f : Occupation → Occupation) : State :=
  { s with occupations := Table.modify s.occupations k f }

def State.modifyLoop (s : State) (k : Nat) (f : Loop → Loop) : State :=
  { s with loops := Table.modify s.loops k f }

def State.setChannel (s : State) (h : Head) (c : Channel) : State :=
  { s with channels := s.channels.set h c }

def State.setEngine (s : State) (h : Head) (e : Engine) : State :=
  { s with engines := s.engines.set h e }

/-- A notice is set; set again it stays set (R189). -/
def State.setNotice (s : State) (n : Notice) : State := { s with notices := s.notices ||| n.flag }

/-! ## Power, time and the values in force -/

/-- The part acts: VDD is present and RESET_N is not held low (R172, R173, log 9). -/
def State.running (s : State) : Bool := s.vdd && !s.resetLow

/-- Survey time as the part reads it; during the backup-lost start-up the clock is taken as UNSET
(R153, R175). -/
def State.now (s : State) : Option TimeMs := if s.startup then none else s.clock

/-- The ACTIVE set as a channel reads it; during the backup-lost start-up the template (R162, R175). -/
def State.activeSet (s : State) (h : Head) : CalibrationSet :=
  if s.startup then calibrationTemplate else s.active.get h

/-- Survey time after one more millisecond, held at its largest value (R153). -/
def holdAtMax (t : TimeMs) : TimeMs :=
  if Config.maxSurveyTime < t then Config.maxSurveyTime else t

/-- One millisecond of the oscillator: the time base runs while VDD is present (R152), the clock
counts on under VDD or VBK (R153, R172), and a drift walk reaches the end of its list (R142). -/
def State.passMillisecond (s : State) : State :=
  { s with
    timeBase := if s.vdd then s.timeBase + 1 else s.timeBase
    clock := s.clock.map fun t => holdAtMax (t + 1)
    inFlight := match s.inFlight with
      | some (.driftApply l _) => some (.driftApply l (((Table.get s.loops l).map (·.members.length)).getD 0))
      | other => other }

/-! ## Occupation records -/

/-- S̄ + T̄ (R121). A CLOSED record holds both; an absent one is read as 0 (log 18). -/
def Occupation.corrected (o : Occupation) : Int := o.readingMean.getD 0 + o.tideMean.getD 0

/-- The record with V = S̄ + T̄ − D written, D taken as 0 when absent (R87). -/
def Occupation.revalue (o : Occupation) : Occupation :=
  { o with value := some (o.corrected - o.drift.getD 0) }

/-- An occupation's mid-time; a CLOSED record holds one (log 18). -/
def Occupation.mid (o : Occupation) : Nat := o.midTime.getD 0

end Sys2Proof.Machine
end

