-- ==== Sys2Proof/Machine/Flags.lean ====
section
/-! DEFINITION. What the part shows on ATTN and in the status byte (R182, R190, R198). -/

namespace Sys2Proof.Machine

/-- The Revision Engine is busy (R133). -/
def State.revisionBusy (s : State) : Bool := !s.revQueue.isEmpty || s.inFlight.isSome

/-- The level of ATTN: a set notice is enabled, and no start-up is running (R190).
DEDUCED: deasserted while RESET_N is held low or VDD is absent (log 9). -/
def State.attn (s : State) : Bool :=
  s.running && !s.startup && (s.notices &&& s.noticeMask) != 0

/-- The link state's code in the status byte (R198). -/
def LinkState.code : LinkState → Nat
  | .idle => 0
  | .working _ => 1
  | .answered _ => 2

/-- The status byte as it stands when CS falls (R182, R198). -/
def State.statusByte (s : State) : Byte :=
  BitVec.ofNat 8 (64 * s.link.code + (if s.attn then 32 else 0) + (if s.lastRejected then 16 else 0)
    + (if s.revisionBusy then 8 else 0))

end Sys2Proof.Machine
end

