-- ==== Sys2Proof/Machine/TideFormula.lean ====
section
/-! DEFINITION. Binary angles, sine and cosine, and the tide formula (R93 to R100). -/

namespace Sys2Proof.Machine

/-- One turn in binary angle units (R93). -/
def turn : Nat := 4294967296

/-- A coordinate in µdeg as a binary angle (R93). -/
def binaryAngle (microDegrees : Int) : Nat :=
  (roundDiv (microDegrees * turn) 360000000 % turn).toNat

/-- The first-quadrant value of a reduced angle 0 to 2³⁰ (R95 parts 4 and 5). -/
def firstQuadrant (r : Nat) : Nat :=
  let i := r / 2097152
  let f := r % 2097152
  if i = 512 then sineEntry 512
  else sineEntry i + ((sineEntry (i + 1) - sineEntry i) * f + 1048576) / 2097152

/-- sinQ15 of a binary angle (R95). -/
def sinQ15 (a : Nat) : Int :=
  let q := a / 1073741824
  let m := a % 1073741824
  let r := if q = 0 ∨ q = 2 then m else 1073741824 - m
  if q = 0 ∨ q = 1 then (firstQuadrant r : Int) else -(firstQuadrant r : Int)

/-- cosQ15 of a binary angle (R95). -/
def cosQ15 (a : Nat) : Int := sinQ15 ((a + 1073741824) % turn)

/-- The species multiple of the longitude (R98). -/
def Species.multiple : Species → Nat
  | .longPeriod => 0
  | .diurnal => 1
  | .semidiurnal => 2

/-- The latitude factors F0, F1, F2 (R97). -/
structure LatitudeFactors where
  f0 : Int
  f1 : Int
  f2 : Int
  deriving DecidableEq, Repr

/-- The latitude factors of a latitude in µdeg (R97). -/
def latitudeFactors (latitude : Int) : LatitudeFactors :=
  let s := sinQ15 (binaryAngle latitude)
  let c := cosQ15 (binaryAngle latitude)
  let s2 := roundDiv (s * s) 32768
  { f0 := roundDiv (32767 - 3 * s2) 2
    f1 := clampInt (-32767) 32767 (roundDiv (2 * s * c) 32768)
    f2 := roundDiv (c * c) 32768 }

/-- The factor a species selects (R97). -/
def LatitudeFactors.of (f : LatitudeFactors) : Species → Int
  | .longPeriod => f.f0
  | .diurnal => f.f1
  | .semidiurnal => f.f2

/-- The phase of a constituent at an instant in whole seconds (R98). -/
def Constituent.phase (c : Constituent) (instant : Nat) (longitude : Int) : Nat :=
  (c.v0 + c.speed * instant / 65536 + c.species.multiple * binaryAngle longitude) % turn

/-- The term of an enabled constituent; a disabled one adds nothing (R98, R99). -/
def Constituent.term (c : Constituent) (f : LatitudeFactors) (instant : Nat) (longitude : Int) : Int :=
  if c.enabled then
    c.amplitude * f.of c.species * cosQ15 (c.phase instant longitude) * (c.delta : Int)
  else 0

/-- The sum of the terms (R99). -/
def termSum (f : LatitudeFactors) (instant : Nat) (longitude : Int) : List Constituent → Int
  | [] => 0
  | c :: cs => c.term f instant longitude + termSum f instant longitude cs

/-- The tide attraction (R100). -/
def tideAttraction (cs : List Constituent) (instant : Nat) (latitude longitude : Int) : Int :=
  roundDiv (termSum (latitudeFactors latitude) instant longitude cs) 17592186044416

/-- The tide correction T (R100). -/
def tideCorrection (cs : List Constituent) (instant : Nat) (latitude longitude : Int) : Int :=
  -tideAttraction cs instant latitude longitude

end Sys2Proof.Machine
end

