-- ==== Sys2Proof/Machine/TideSlots.lean ====
section
/-! DEFINITION. The Tide Engine's slots: placing, starting, withdrawing (R102 to R106), and the
owed steps of an occupation (R56). -/

namespace Sys2Proof.Machine

/-- The request for step `k` of an occupation of a station (R102). -/
def tideRequest (occupation k : Nat) (st : Station) : TideRequest :=
  { target := occupation, step := k, instant := Config.tideStepSeconds * k + 15
    latitude := st.latitude, longitude := st.longitude, coordGen := st.coordGen }

/-- A source's slot (R90). -/
def TideEngine.slot (t : TideEngine) : TideSource → Slot
  | .head h => t.headSlots.get h
  | .revision => t.revisionSlot

def TideEngine.setSlot (t : TideEngine) (src : TideSource) (x : Slot) : TideEngine :=
  match src with
  | .head h => { t with headSlots := t.headSlots.set h x }
  | .revision => { t with revisionSlot := x }

/-- The request WAITING in a source's slot, if one is. -/
def TideEngine.waiting (t : TideEngine) (src : TideSource) : Option (TideSource × TideRequest) :=
  match t.slot src with
  | .waiting r => some (src, r)
  | _ => none

/-- The same for a head's slot; none for the Revision Engine's. -/
def TideEngine.waitingHead (t : TideEngine) (src : TideSource) : Option (TideSource × TideRequest) :=
  match src with
  | .head h => t.waiting (.head h)
  | .revision => none

/-- The source the free engine starts: the head request placed earliest, or else the Revision
Engine's (R103). -/
def TideEngine.choose (t : TideEngine) : Option (TideSource × TideRequest) :=
  (t.placed.findSome? t.waitingHead).or (t.waiting .revision)

/-- The engine, if it is free, starts the request it chooses, copying the constituent table and
its generation (R103, R104). -/
def State.startEvaluation (s : State) : State :=
  match s.tide.evaluation, s.tide.choose with
  | none, some (src, r) =>
    { s with tide :=
      { s.tide.setSlot src (.evaluating r) with
        placed := s.tide.placed.filter (· != src)
        evaluation := some { source := src, request := r, constituents := s.constituents
                             tableGen := s.tableGen, isVoid := false } } }
  | _, _ => s

/-- A source places a request in its EMPTY slot, after those that wait already; the free engine
looks for one to start (R90, R103). -/
def State.placeRequest (s : State) (src : TideSource) (r : TideRequest) : State :=
  match s.tide.slot src with
  | .empty =>
    { s with tide :=
      { s.tide.setSlot src (.waiting r) with
        placed := s.tide.placed ++ [src] } }.startEvaluation
  | _ => s

/-- A source withdraws its request: a WAITING one is removed, an EVALUATING one leaves a void
evaluation behind (R106). -/
def State.withdraw (s : State) (src : TideSource) : State :=
  match s.tide.slot src with
  | .empty => s
  | .waiting _ =>
    { s with tide :=
      { s.tide.setSlot src .empty with placed := s.tide.placed.filter (· != src) } }
  | .evaluating _ =>
    { s with tide :=
      { s.tide.setSlot src .empty with
        evaluation := s.tide.evaluation.map fun e => { e with isVoid := true } } }

/-- The owed steps with the oldest unrequested one marked requested (R56). -/
def markRequested : List OwedStep → List OwedStep
  | [] => []
  | o :: os => if o.requested then o :: markRequested os else { o with requested := true } :: os

/-- What an engine integrates, in INTEGRATING and REDUCING. -/
def Engine.integration? : Engine → Option (Session × Integration)
  | .integrating w g => some (w, g)
  | .reducing w g _ _ => some (w, g)
  | _ => none

/-- The engine with its owed steps replaced. -/
def Engine.withOwed (owed : List OwedStep) : Engine → Engine
  | .integrating w g => .integrating w { g with owed := owed }
  | .reducing w g e gr => .reducing w { g with owed := owed } e gr
  | e => e

/-- A head whose slot is EMPTY places a request for its oldest owed step not yet requested, with
the station's coordinates as they stand (R56, R102). -/
def State.placeOwed (s : State) (h : Head) : State :=
  match (s.engines.get h).integration?, s.tide.headSlots.get h with
  | some (w, g), .empty =>
    match g.owed.find? (fun o => !o.requested), Table.get s.stations w.station with
    | some o, some st =>
      (s.setEngine h ((s.engines.get h).withOwed (markRequested g.owed))).placeRequest (.head h)
        (tideRequest w.occupation o.index st)
    | _, _ => s
  | _, _ => s

end Sys2Proof.Machine
end

