-- ==== Sys2Proof/Machine/Revision.lean ====
section
/-! DEFINITION. The Revision Queue and its items (R133 to R149). -/

namespace Sys2Proof.Machine

/-! ## The queue -/

/-- An owner queues an item: not a second one of the kind and target; the mark is set in the same
step (R134). -/
def State.queueItem (s : State) (i : RevItem) : State :=
  let q := if i ∈ s.revQueue then s.revQueue else s.revQueue ++ [i]
  let s' := { s with revQueue := q }
  match i.kind with
  | .tideRedo => s'
  | .driftApply => s'.modifyLoop i.target fun l => { l with state := .closing }
  | .stationValue => s'.modifyStation i.target fun st => { st with valueStale := true }

/-- Several items in the order the owning rule gives (R134). -/
def State.queueAll (s : State) (is : List RevItem) : State := is.foldl State.queueItem s

/-- Items leave the queue; the others keep their order (R135). -/
def State.removeItems (s : State) (p : RevItem → Bool) : State :=
  { s with revQueue := s.revQueue.filter fun i => !p i }

/-- The occupation whose TIDE_REDO is in flight. -/
def State.redoing (s : State) : Option Nat :=
  match s.inFlight with
  | some (.tideRedo o _ _) => some o
  | _ => none

/-- The loop whose DRIFT_APPLY is in flight. -/
def State.applying (s : State) : Option Nat :=
  match s.inFlight with
  | some (.driftApply l _) => some l
  | _ => none

/-- The item in flight is abandoned: what it held is dropped, and a request it has at the Tide
Engine is withdrawn (R135). -/
def State.dropInFlight (s : State) : State :=
  match s.inFlight with
  | some (.tideRedo _ _ _) => { s with inFlight := none }.withdraw .revision
  | some (.driftApply _ _) => { s with inFlight := none }
  | none => s

/-! ## STATION_VALUE -/

/-- An occupation contributes when it is CLOSED and included (R144). -/
def Occupation.contributes (o : Occupation) : Bool := o.state == .closed && o.included

/-- The contributing occupations of a chain, in chain order (R144). -/
def State.contributing (s : State) (chain : List Nat) : List Occupation :=
  (chain.filterMap (Table.get s.occupations)).filter Occupation.contributes

/-- A contributing occupation's weight (R62). -/
def Occupation.weight (o : Occupation) : Nat := (o.grade.map Grade.weight).getD 0

/-- A contributing occupation's V (R144). -/
def Occupation.v (o : Occupation) : Int := o.value.getD 0

def weightSum : List Occupation → Nat
  | [] => 0
  | o :: os => o.weight + weightSum os

def weightedSum : List Occupation → Int
  | [] => 0
  | o :: os => (o.weight : Int) * o.v + weightedSum os

/-- The largest and the smallest of a first value and those of a list. -/
def largestV (v : Int) : List Occupation → Int
  | [] => v
  | o :: os => largestV (if v < o.v then o.v else v) os

def smallestV (v : Int) : List Occupation → Int
  | [] => v
  | o :: os => smallestV (if o.v < v then o.v else v) os

/-- The spread: largest minus smallest V, absent when none contributes (R147). -/
def spreadOf : List Occupation → Option Int
  | [] => none
  | o :: os => some (largestV o.v os - smallestV o.v os)

/-- The adopted value (R145). -/
def adoptedOf (os : List Occupation) : Option Int :=
  if os.isEmpty then none else some (roundDiv (weightedSum os) (weightSum os))

/-- The station's state (R146). -/
def stationStateOf (os : List Occupation) : StationState :=
  if os.isEmpty then .declared
  else if os.any (fun o => o.drift.isNone) then .provisional
  else .adopted

/-- The spread is above the spread limit (R147). -/
def discordantOf (limit : Nat) (os : List Occupation) : Bool :=
  match spreadOf os with
  | some d => decide ((limit : Int) < d)
  | none => false

/-- The station with what its item writes (R144 to R148). -/
def Station.processed (st : Station) (limit : Nat) (os : List Occupation) : Station :=
  { st with
    state := stationStateOf os, adopted := adoptedOf os, spread := spreadOf os
    weightTotal := weightSum os, discordant := discordantOf limit os, valueStale := false }

/-- A STATION_VALUE item is processed in one step (R144 to R148). -/
def State.processStation (s : State) (slot : Nat) : State :=
  match Table.get s.stations slot with
  | none => s
  | some st =>
    let os := s.contributing st.chain
    let s' := s.modifyStation slot fun st => st.processed s.constants.spreadLimit os
    if discordantOf s.constants.spreadLimit os && !st.discordant then
      s'.setNotice .stationDiscordant
    else s'

/-! ## Taking items -/

/-- The item in flight asks for the next step it awaits (R138). -/
def State.requestRedoStep (s : State) : State :=
  match s.inFlight with
  | some (.tideRedo o _ (k :: _)) =>
    match Table.get s.occupations o with
    | some occ =>
      match Table.get s.stations occ.station with
      | some st => s.placeRequest .revision (tideRequest o k st)
      | none => s
    | none => s
  | _ => s

/-- A TIDE_REDO item is taken into flight, reading the occupation's step list (R138). -/
def State.takeRedo (s : State) (o : Nat) : State :=
  let steps := ((Table.get s.occupations o).map Occupation.steps).getD []
  { s with inFlight := some (.tideRedo o [] (steps.map TideStep.index)) }.requestRedoStep

/-- An occupation is tide-stale. -/
def State.occStale (s : State) (o : Nat) : Bool :=
  ((Table.get s.occupations o).map Occupation.tideStale).getD false

/-- A DRIFT_APPLY item is deferred while its loop's opener or closer is tide-stale (R136). -/
def State.deferred (s : State) (l : Nat) : Bool :=
  match Table.get s.loops l with
  | some lp => s.occStale lp.opener || (lp.closer.map s.occStale).getD false
  | none => false

/-- The engine takes items from the head of the queue until one is in flight or the queue is
empty: STATION_VALUE is processed at once, a deferred DRIFT_APPLY goes to the tail (R136, R144).
Each waiting item is judged at most once, which `fuel` counts. -/
def takeItems : Nat → State → State
  | 0, s => s
  | fuel + 1, s =>
    match s.inFlight, s.revQueue with
    | none, i :: rest =>
      let s' := { s with revQueue := rest }
      match i.kind with
      | .stationValue => takeItems fuel (s'.processStation i.target)
      | .tideRedo => s'.takeRedo i.target
      | .driftApply =>
        if s.deferred i.target then takeItems fuel { s with revQueue := rest ++ [i] }
        else { s' with inFlight := some (.driftApply i.target 0) }
    | _, _ => s

/-- The Revision Engine goes on after an event: it takes items, and REVISION_IDLE is set when it
passes from busy to idle; `wasBusy` says that it was busy before the event (R136, R137). -/
def State.revise (wasBusy : Bool) (s : State) : State :=
  let s' := takeItems s.revQueue.length s
  if (wasBusy || s.revisionBusy) && !s'.revisionBusy then s'.setNotice .revisionIdle else s'

/-! ## TIDE_REDO -/

/-- A TIDE_REDO in flight for one of these occupations restarts at the tail, what it held
dropped and its request withdrawn (R140 part 1). -/
def State.restartRedo (s : State) (os : List Nat) : State :=
  match s.redoing with
  | some o => if o ∈ os then s.dropInFlight.queueItem ⟨.tideRedo, o⟩ else s
  | none => s

/-- Occupations are marked tide-stale and a TIDE_REDO is queued for each, one in flight among
them restarting at the tail after all of them (R17, R109, R140). -/
def State.markTideStale (s : State) (os : List Nat) : State :=
  let marked :=
    { s with
      occupations := Table.modifyKeys s.occupations os fun o => { o with tideStale := true } }
  let waiting := os.filter fun o => s.redoing != some o
  (marked.queueAll (waiting.map fun o => ⟨.tideRedo, o⟩)).restartRedo os

/-- A step with the result held for it (R141 part 1). -/
def TideStep.redone (held : List HeldResult) (k : TideStep) : TideStep :=
  match held.find? fun r => r.step == k.index with
  | some r => { k with value := some r.value }
  | none => k

/-- The record with its redone steps, T̄ and V, tide-stale cleared (R141 parts 1 to 4). -/
def Occupation.redone (held : List HeldResult) (o : Occupation) : Occupation :=
  let steps := o.steps.map (TideStep.redone held)
  { o with steps := steps, tideMean := some (tideMeanOf steps o.counts.accepted)
           tideStale := false }.revalue

/-- A loop is CLOSED or SUSPECT. -/
def Loop.applied (l : Loop) : Bool := l.state == .closed || l.state == .suspect

/-- The loop number if the loop is CLOSED or SUSPECT. -/
def State.appliedLoop (s : State) (l : Option Nat) : List Nat :=
  match l with
  | some n => if ((Table.get s.loops n).map Loop.applied).getD false then [n] else []
  | none => []

/-- The loop an occupation closes (R114): its drift loop, when that loop's closer it is. -/
def State.closesLoop (s : State) (n : Nat) (o : Occupation) : Option Nat :=
  match o.driftLoop with
  | some l => if (Table.get s.loops l).bind (·.closer) = some n then some l else none
  | none => none

/-- The TIDE_REDO item completes (R141). -/
def State.completeRedo (s : State) (n : Nat) (held : List HeldResult) : State :=
  match Table.get s.occupations n with
  | none => { s with inFlight := none }
  | some o =>
    let s1 := { s with inFlight := none }.modifyOccupation n (Occupation.redone held)
    let loops := s1.appliedLoop (s1.closesLoop n o) ++ s1.appliedLoop o.anchorsLoop
    (s1.queueAll (loops.map fun l => ⟨.driftApply, l⟩)).queueItem ⟨.stationValue, o.station⟩

/-- A result reaches the item in flight (R139, R141). -/
def State.redoResult (s : State) (target step : Nat) (v : TideValue) : State :=
  match s.inFlight with
  | some (.tideRedo o held (k :: ks)) =>
    if target = o ∧ step = k then
      let held' := held ++ [⟨k, v⟩]
      match ks with
      | [] => (s.completeRedo o held').revise true
      | _ => { s with inFlight := some (.tideRedo o held' ks) }.requestRedoStep
    else s
  | _ => s

/-! ## The rebuild scan -/

/-- The items the scan at a restart queues (R149). -/
def State.owedItems (s : State) : List RevItem :=
  (Table.keysWhere s.occupations fun o => o.state == .closed && (o.tideStale || o.tideMean.isNone)).map
      (fun n => ⟨.tideRedo, n⟩)
    ++ (Table.keysWhere s.loops fun l => l.state == .closing).map (fun n => ⟨.driftApply, n⟩)
    ++ (Table.keysWhere s.stations fun st => st.valueStale).map (fun n => ⟨.stationValue, n⟩)

end Sys2Proof.Machine
end

