-- ==== Sys2Proof/Machine/DriftLoops.lean ====
section
/-! DEFINITION. The Drift Unit: opening, joining, closing, applying, abandoning and releasing loops
(R112 to R130). -/

namespace Sys2Proof.Machine

/-- A loop just opened (R118). -/
def Loop.fresh (n : Nat) (o : Occupation) : Loop :=
  { head := o.head, state := .opened, base := o.station, opener := n, closer := none
    calGen := o.calGen, rate := none, members := [] }

/-- The record as opener of a loop; as an anchor alone its D becomes 0 (R118). -/
def Occupation.anchoring (loop : Nat) (anchor : Bool) (o : Occupation) : Occupation :=
  if anchor then { o with anchorsLoop := some loop, drift := some 0 }.revalue
  else { o with anchorsLoop := some loop }

/-- A loop is opened in the lowest free entry, or LOOP_REFUSED is set (R118). `anchor`: the opener
holds no other loop role (case 3 of R115). -/
def State.startLoop (s : State) (n : Nat) (o : Occupation) (anchor : Bool) : State :=
  match Table.firstFree s.loops Config.loopEntries with
  | none => s.setNotice .loopRefused
  | some k =>
    { s with loops := Table.put s.loops k (Loop.fresh n o) }.modifyOccupation n
      (Occupation.anchoring k anchor)

/-- The occupation closes the OPEN loop, and the next one is opened (R116, case 1 of R115). -/
def State.closeLoop (s : State) (k n : Nat) (o : Occupation) : State :=
  (((s.modifyLoop k fun l => { l with closer := some n }).modifyOccupation n
      fun o => { o with driftLoop := some k }).queueItem ⟨.driftApply, k⟩).startLoop n o false

/-- The occupation joins the OPEN loop's member list, or LOOP_REFUSED is set (R117). -/
def State.joinLoop (s : State) (k : Nat) (l : Loop) (n : Nat) : State :=
  if l.members.length < Config.memberCapacity then
    (s.modifyLoop k fun l => { l with members := l.members ++ [n] }).modifyOccupation n
      fun o => { o with driftLoop := some k }
  else s.setNotice .loopRefused

/-- A station's role, if the slot holds a station. -/
def State.roleOf (s : State) (slot : Nat) : Option Role :=
  (Table.get s.stations slot).map Station.role

/-- A closed occupation is handed to the Drift Unit (R115). -/
def State.handOver (s : State) (n : Nat) : State :=
  match Table.get s.occupations n with
  | none => s
  | some o =>
    match s.openLoop o.head with
    | some (k, l) => if l.base = o.station then s.closeLoop k n o else s.joinLoop k l n
    | none => if s.roleOf o.station = some .base then s.startLoop n o true else s

/-- The station of an occupation, as a list for queuing. -/
def State.stationOf (s : State) (n : Nat) : List Nat :=
  ((Table.get s.occupations n).map Occupation.station).toList

/-- STATION_VALUE is queued for the stations of occupations, in list order (R124, R126). -/
def State.queueStationsOf (s : State) (ns : List Nat) : State :=
  s.queueAll ((ns.flatMap s.stationOf).map fun x => ⟨.stationValue, x⟩)

/-- The record with the drift term of a loop (R123, R124). -/
def Occupation.drifted (r : Int) (ta : Nat) (o : Occupation) : Occupation :=
  { o with drift := some (driftTerm r ta o.mid), driftFrozen := false }.revalue

/-- A drift application completes for a loop with its opener and closer at hand (R121 to R124). -/
def State.applyLoop (s : State) (k : Nat) (l : Loop) (c : Nat) (oa ob : Occupation) : State :=
  let rs := limitRate s.constants.driftLimit oa.mid ob.mid
    (driftRate oa.corrected ob.corrected oa.mid ob.mid)
  let s1 := s.modifyLoop k fun l => { l with rate := some rs.1, state := rs.2 }
  let s2 :=
    { s1 with
      occupations :=
        Table.modifyKeys s1.occupations (l.members ++ [c]) (Occupation.drifted rs.1 oa.mid) }
  (s2.queueStationsOf (c :: l.members)).setNotice
    (if rs.2 = .closed then .loopClosed else .loopSuspect)

/-- The DRIFT_APPLY item in flight completes (R124, R142). A CLOSING loop holds its opener and
closer; a loop without them is not applied (log 18). -/
def State.completeApply (s : State) (k : Nat) : State :=
  let s' := { s with inFlight := none }
  match Table.get s.loops k with
  | none => s'
  | some l =>
    match l.closer with
    | none => s'
    | some c =>
      match Table.get s.occupations l.opener, Table.get s.occupations c with
      | some oa, some ob => s'.applyLoop k l c oa ob
      | _, _ => s'

/-! ## Abandonment -/

/-- A member of an abandoned loop (R126 part 1). -/
def Occupation.unmembered (o : Occupation) : Occupation :=
  { o with driftLoop := none, drift := none }.revalue

/-- The closer of an abandoned loop (R126 part 2). -/
def Occupation.unclosed (o : Occupation) : Occupation :=
  { o with driftLoop := none, drift := if o.anchorsLoop.isSome then some 0 else none }.revalue

/-- The D is the anchor's 0: no drift loop and not frozen (R114, R126, R127). -/
def Occupation.anchorZero (o : Occupation) : Bool :=
  o.driftLoop.isNone && o.drift == some 0 && !o.driftFrozen

/-- The opener of an abandoned loop (R126 part 3). -/
def Occupation.unanchored (o : Occupation) : Occupation :=
  if o.anchorZero then { o with anchorsLoop := none, drift := none }.revalue
  else { o with anchorsLoop := none }

/-- An occupation's drift term, absent for a FREE record. -/
def State.driftOf (s : State) (n : Nat) : Option Int :=
  (Table.get s.occupations n).bind Occupation.drift

/-- The occupations of an abandoned loop with the terms withdrawn (R126 parts 1 to 3). -/
def State.withdrawTerms (s : State) (l : Loop) : State :=
  let s1 := { s with occupations := Table.modifyKeys s.occupations l.members Occupation.unmembered }
  let s2 := match l.closer with
    | some c => s1.modifyOccupation c Occupation.unclosed
    | none => s1
  s2.modifyOccupation l.opener Occupation.unanchored

/-- Opener, closer and members, the order of R126 part 5. -/
def Loop.occupants (l : Loop) : List Nat := l.opener :: (l.closer.toList ++ l.members)

/-- The occupants whose D differs between two states (R126 part 5). -/
def changedDrift (s s' : State) (ns : List Nat) : List Nat :=
  ns.filter fun n => s.driftOf n != s'.driftOf n

/-- The occupants whose D became absent (R125). -/
def lostDrift (s s' : State) (ns : List Nat) : List Nat :=
  ns.filter fun n => (s.driftOf n).isSome && (s'.driftOf n).isNone

/-- The loop's DRIFT_APPLY leaves the queue, or is abandoned in flight (R126 part 4). -/
def State.dropApply (s : State) (k : Nat) : State :=
  let s' := s.removeItems fun i => i == ⟨.driftApply, k⟩
  if s.applying = some k then s'.dropInFlight else s'

/-- A loop is abandoned (R126). -/
def State.abandon (s : State) (k : Nat) : State :=
  match Table.get s.loops k with
  | none => s
  | some l =>
    let s1 := s.withdrawTerms l
    let s2 := (s1.dropApply k).queueStationsOf (changedDrift s s1 l.occupants)
    { s2 with loops := Table.del s2.loops k }

/-- How many occupations lose their drift term by an abandonment (R125). -/
def State.abandonLoses (s : State) (k : Nat) : Nat :=
  match Table.get s.loops k with
  | none => 0
  | some l => (lostDrift s (s.withdrawTerms l) l.occupants).length

/-! ## Release -/

/-- A member or the closer of a released loop (R127 part 1). -/
def Occupation.frozen (o : Occupation) : Occupation :=
  { o with driftLoop := none, driftFrozen := true }

/-- The opener of a released loop (R127 part 2). -/
def Occupation.releasedOpener (o : Occupation) : Occupation :=
  { o with anchorsLoop := none, driftFrozen := o.driftFrozen || o.anchorZero }

/-- A CLOSED or SUSPECT loop is released (R127). -/
def State.release (s : State) (k : Nat) (l : Loop) : State :=
  let s1 :=
    { s with
      occupations :=
        Table.modifyKeys s.occupations (l.members ++ l.closer.toList) Occupation.frozen }
  let s2 := s1.modifyOccupation l.opener Occupation.releasedOpener
  { s2 with loops := Table.del s2.loops k }

/-- How many occupations' terms a release freezes (R127, log 14). -/
def State.releaseFreezes (s : State) (l : Loop) : Nat :=
  l.members.length + l.closer.toList.length
    + (if ((Table.get s.occupations l.opener).map Occupation.anchorZero).getD false then 1 else 0)

/-! ## Deletion and retirement -/

/-- A member leaves a loop's member list; a walk in flight skips it (R130, R142). -/
def State.removeMember (s : State) (k n : Nat) : State :=
  match Table.get s.loops k with
  | none => s
  | some l =>
    let s' := s.modifyLoop k fun l => { l with members := l.members.filter (· != n) }
    match s.inFlight with
    | some (.driftApply k' walked) =>
      if k' = k then
        { s' with
          inFlight := some (.driftApply k' ((l.members.take walked).filter (· != n)).length) }
      else s'
    | _ => s'

/-- The loop a record is a member of, if it is one (R114). -/
def State.memberLoop (s : State) (n : Nat) (o : Occupation) : Option Nat :=
  match o.driftLoop with
  | some k => if n ∈ ((Table.get s.loops k).map Loop.members).getD [] then some k else none
  | none => none

/-- The loop a record opens, if it opens one (R114). -/
def State.opensLoop (s : State) (n : Nat) (o : Occupation) : Option Nat :=
  match o.anchorsLoop with
  | some k => if (Table.get s.loops k).map Loop.opener = some n then some k else none
  | none => none

/-- The loops a deletion abandons: the one the record closes, then the one it opens (R129). -/
def State.loopsAbandonedWith (s : State) (n : Nat) (o : Occupation) : List Nat :=
  (s.closesLoop n o).toList ++ (s.opensLoop n o).toList

/-- Several loops are abandoned in order. -/
def State.abandonAll (s : State) (ks : List Nat) : State := ks.foldl State.abandon s

/-- A CLOSED record's loop roles are resolved before it is freed (R129). -/
def State.resolveRoles (s : State) (n : Nat) (o : Occupation) : State :=
  let s1 := match s.memberLoop n o with
    | some k => s.removeMember k n
    | none => s
  s1.abandonAll (s.loopsAbandonedWith n o)

end Sys2Proof.Machine
end

