-- ==== Sys2Proof/Machine/Engines.lean ====
section
/-! DEFINITION. The Occupation Engines: settling, integrating, ending, closing and failing
(R43 to R65). -/

namespace Sys2Proof.Machine

/-- What an engine holds outside IDLE (R43). -/
def Engine.session? : Engine → Option Session
  | .idle => none
  | .settling w _ _ => some w
  | .integrating w _ => some w
  | .reducing w _ _ _ => some w

/-- The occupation a head has OPEN fails (R65). For cause INTERRUPTED see `State.interrupt`. -/
def State.failOccupation (s : State) (h : Head) (cause : FailCause) : State :=
  match (s.engines.get h).session? with
  | none => s
  | some w =>
    ((((s.modifyOccupation w.occupation fun o => { o with state := .failed cause }).withdraw
      (.head h)).setNotice (.occEnded h)).setEngine h .idle)

/-- An engine in SETTLING enters INTEGRATING, its sums at 0 (R51, R52, R61, R84). -/
def State.enterIntegrating (s : State) (h : Head) (start : TimeMs) : State :=
  match s.engines.get h with
  | .settling w _ _ =>
    s.setEngine h (.integrating w
      { start := start, capDeadline := start + 2 * w.granted * 1000
        readingSum := 0, timeSum := 0, owed := [] })
  | _ => s

/-- The sample time of the last converted sample; while an engine runs the clock is RUNNING and
it is present (R38). -/
def State.lastSampleTime (s : State) (h : Head) : TimeMs :=
  ((s.channels.get h).lastSample.bind Sample.time).getD 0

/-- The settle counter stands at the settle count: the engine enters INTEGRATING at the time of
the sample that completed it (R51). -/
def State.settleReached (s : State) (h : Head) : State :=
  match s.engines.get h with
  | .settling _ counter _ =>
    if (s.activeSet h).settleCount ≤ counter then s.enterIntegrating h (s.lastSampleTime h) else s
  | _ => s

/-! ## Closing -/

/-- A step carries a generation that is no longer current (R64, R107). -/
def TideStep.outdated (coordGen tableGen : Gen) (k : TideStep) : Bool :=
  match k.value with
  | some v => v.coordGen != coordGen || v.tableGen != tableGen
  | none => false

/-- The record written CLOSED (R63 part 1). -/
def Occupation.close (g : Integration) (grade : Grade) (stale : Bool) (o : Occupation) : Occupation :=
  { o with
    state := .closed, included := true, grade := some grade
    midTime := some (roundDiv g.timeSum (o.counts.accepted * 1000)).toNat
    readingMean := some (roundDiv g.readingSum o.counts.accepted)
    tideMean := some (tideMeanOf o.steps o.counts.accepted)
    tideStale := stale, drift := none, driftFrozen := false, driftLoop := none
    anchorsLoop := none }.revalue

/-- The occupation is tide-stale at its close (R64). -/
def State.staleAtClose (s : State) (o : Occupation) : Bool :=
  match Table.get s.stations o.station with
  | some st => o.steps.any (TideStep.outdated st.coordGen s.tableGen)
  | none => false

/-- The occupation in REDUCING closes (R63). -/
def State.closeOccupation (s : State) (h : Head) : State :=
  match s.engines.get h with
  | .reducing w g _ grade =>
    match Table.get s.occupations w.occupation with
    | some o =>
      let stale := s.staleAtClose o
      let s1 := s.modifyOccupation w.occupation (Occupation.close g grade stale)
      let s2 := if stale then s1.queueItem ⟨.tideRedo, w.occupation⟩ else s1
      let s3 := (s2.handOver w.occupation).queueItem ⟨.stationValue, o.station⟩
      ((s3.setNotice (.occEnded h)).setEngine h .idle).revise s.revisionBusy
    | none => s
  | _ => s

/-- In REDUCING with no step owed the occupation closes (R63). -/
def State.closeIfReady (s : State) (h : Head) : State :=
  match s.engines.get h with
  | .reducing _ g _ _ => if g.owed.isEmpty then s.closeOccupation h else s
  | _ => s

/-- The counts of an occupation record; a FREE record has none. -/
def State.countsOf (s : State) (n : Nat) : OccCounts :=
  ((Table.get s.occupations n).map Occupation.counts).getD ⟨0, 0, 0, 0, 0, 0, 0, 0⟩

/-- Integration ends and is judged: it fails NOISY, or goes to REDUCING and closes when no step is
owed (R59 to R63). -/
def State.endIntegration (s : State) (h : Head) (ending : Ending) : State :=
  match s.engines.get h with
  | .integrating w g =>
    match judge ending (s.countsOf w.occupation) with
    | none => s.failOccupation h .noisy
    | some grade => (s.setEngine h (.reducing w g ending grade)).closeIfReady h
  | _ => s

/-- The accepted count stands at the target: integration ends with ending TARGET (R59). -/
def State.targetReached (s : State) (h : Head) : State :=
  match s.engines.get h with
  | .integrating w _ =>
    if w.target ≤ (s.countsOf w.occupation).accepted then s.endIntegration h .target else s
  | _ => s

/-- Integration ends by STOP: SHORT below 30 accepted samples (R60). -/
def State.stopIntegration (s : State) (h : Head) : State :=
  match s.engines.get h with
  | .integrating w _ =>
    if (s.countsOf w.occupation).accepted < Config.fewestForStop then s.failOccupation h .short
    else s.endIntegration h .stop
  | _ => s

/-- Integration ends by its cap: SHORT below half the target (R61). -/
def State.capIntegration (s : State) (h : Head) : State :=
  match s.engines.get h with
  | .integrating w _ =>
    if 2 * (s.countsOf w.occupation).accepted < w.target then s.failOccupation h .short
    else s.endIntegration h .cap
  | _ => s

/-! ## Integrating -/

/-- A count of an occupation record goes up, to stop at 65,535 (R45). -/
def recordCount (n k : Nat) : Nat := countUp Config.maxRecordCount n k

/-- The step list with a sample of step `k` (R56). -/
def addToSteps (k : Nat) (steps : List TideStep) : List TideStep :=
  if steps.any fun x => x.index == k then
    steps.map fun x => if x.index = k then { x with count := x.count + 1 } else x
  else steps ++ [⟨k, 1, none⟩]

/-- The tide step of a sample time (R56). -/
def stepOfTime (t : TimeMs) : Nat := t / 1000 / Config.tideStepSeconds

/-- The counts with an accepted sample (R54 part 3). -/
def OccCounts.accept (k : OccCounts) (r : Regime) : OccCounts :=
  { k with
    accepted := recordCount k.accepted 1
    extended := if r = .extended then recordCount k.extended 1 else k.extended }

/-- The counts with a rejected sample (R55). -/
def OccCounts.reject (k : OccCounts) : Verdict → OccCounts
  | .accepted => k
  | .clamped => { k with clamped := recordCount k.clamped 1 }
  | .thermal => { k with thermal := recordCount k.thermal 1 }
  | .tilt => { k with tilt := recordCount k.tilt 1 }
  | .offscale => { k with offscale := recordCount k.offscale 1 }

/-- An accepted sample is taken into the occupation (R54 parts 1 to 4, R56). -/
def State.integrateSample (s : State) (h : Head) (w : Session) (g : Integration) (x : Sample) :
    State :=
  let t := x.time.getD 0
  let k := stepOfTime t
  let known := (((Table.get s.occupations w.occupation).map Occupation.steps).getD []).any
    fun y => y.index == k
  let g' := { g with
    readingSum := g.readingSum + sampleValue (s.activeSet h) x
    timeSum := g.timeSum + t
    owed := if known then g.owed else g.owed ++ [⟨k, false⟩] }
  (((s.modifyOccupation w.occupation fun o =>
      { o with counts := o.counts.accept x.regime, steps := addToSteps k o.steps }).setEngine h
    (.integrating w g')).placeOwed h)

/-- The settle counter after a sample (R51). -/
def settleCounter (set : CalibrationSet) (counter : Nat) (x : Sample) : Nat :=
  if x.verdict = .accepted ∧ x.ux.natAbs ≤ set.settleWindow ∧ x.uy.natAbs ≤ set.settleWindow then
    counter + 1
  else 0

/-- A sample reaches the engine (R44, R51, R54, R55, R58). -/
def State.engineSample (s : State) (h : Head) (x : Sample) : State :=
  match s.engines.get h with
  | .settling w counter deadline =>
    if x.rate ≠ w.rate then s.failOccupation h .rateChange
    else (s.setEngine h
      (.settling w (settleCounter (s.activeSet h) counter x) deadline)).settleReached h
  | .integrating w g =>
    if x.rate ≠ w.rate then s.failOccupation h .rateChange
    else if x.verdict = .accepted then (s.integrateSample h w g x).targetReached h
    else s.modifyOccupation w.occupation fun o => { o with counts := o.counts.reject x.verdict }
  | .idle => s
  | .reducing .. => s

/-- A corrupt frame reaches the engine: counted in INTEGRATING alone (R44, R55). -/
def State.engineCorrupt (s : State) (h : Head) : State :=
  match s.engines.get h with
  | .integrating w _ =>
    s.modifyOccupation w.occupation fun o =>
      { o with counts := { o.counts with corrupt := recordCount o.counts.corrupt 1 } }
  | _ => s

/-- A gap of `m` frames reaches the engine: counted in INTEGRATING alone (R44, R55). -/
def State.engineGap (s : State) (h : Head) (m : Nat) : State :=
  match s.engines.get h with
  | .integrating w _ =>
    s.modifyOccupation w.occupation fun o =>
      { o with counts := { o.counts with gap := recordCount o.counts.gap m } }
  | _ => s

/-- A head loss reaches the engine: the settle counter returns to 0, integration holds (R57). -/
def State.engineHeadLost (s : State) (h : Head) : State :=
  match s.engines.get h with
  | .settling w _ deadline => s.setEngine h (.settling w 0 deadline)
  | _ => s

/-! ## Tide results -/

/-- The step list with a tide value delivered for step `k` (R56, R105). -/
def deliverStep (k : Nat) (v : TideValue) (steps : List TideStep) : List TideStep :=
  steps.map fun x => if x.index = k then { x with value := some v } else x

/-- A result reaches the engine: written when its target is the OPEN occupation and the step is
owed, discarded otherwise; the next request is placed, or the occupation closes (R56, R63, R105). -/
def State.engineResult (s : State) (h : Head) (target step : Nat) (v : TideValue) : State :=
  match (s.engines.get h).integration? with
  | some (w, g) =>
    if target = w.occupation ∧ g.owed.any (fun o => o.index == step) then
      let owed := g.owed.filter fun o => o.index != step
      ((((s.modifyOccupation w.occupation fun o =>
        { o with steps := deliverStep step v o.steps }).setEngine h
          ((s.engines.get h).withOwed owed)).placeOwed h).closeIfReady h)
    else s.placeOwed h
  | none => s

/-- The evaluation in flight completes: its slot empties, its result goes to its source unless it
is void, and the free engine looks for the next request (R103, R105, R106). -/
def State.completeEvaluation (s : State) : State :=
  match s.tide.evaluation with
  | none => s
  | some e =>
    let free := { s with tide := { s.tide with evaluation := none } }
    if e.isVoid then free.startEvaluation
    else
      let emptied := { s with tide := { s.tide.setSlot e.source .empty with evaluation := none } }
      let v : TideValue :=
        { tide := tideCorrection e.constituents e.request.instant e.request.latitude e.request.longitude
          coordGen := e.request.coordGen, tableGen := e.tableGen }
      (match e.source with
        | .head h => emptied.engineResult h e.request.target e.request.step v
        | .revision => emptied.redoResult e.request.target e.request.step v).startEvaluation

/-! ## Restart -/

/-- Every OPEN occupation becomes FAILED with cause INTERRUPTED, without a notice (R71, R174). -/
def State.interrupt (s : State) : State :=
  { s with
    occupations := Table.modifyAll s.occupations fun o =>
      if o.state = .opened then { o with state := .failed .interrupted } else o }

end Sys2Proof.Machine
end

