-- ==== Sys2Proof/Machine/PowerEvents.lean ====
section
/-! DEFINITION. Supply, reset and the two start-up sequences (R149, R172 to R178). -/

namespace Sys2Proof.Machine

/-- The main domain at its reset state: the state of every start (R42, R71, R111, R151, R152,
R161, R173, R195). -/
def State.resetMain (s : State) : State :=
  { s with
    channels := perHead .reset, engines := perHead .idle, tide := .reset
    revQueue := [], inFlight := none, pulse := .reset, timeBase := 0
    link := .idle, lastRejected := false, notices := 0, scan := none, startup := false
    miso := [] }

/-- The restart sequence, its parts in order, after which the Revision Engine takes its first item
(R149, R174; log 11). -/
def State.restart (s : State) : State :=
  let s1 := s.interrupt
  let s2 := s1.queueAll s1.owedItems
  State.revise false { s2 with notices := Notice.restarted.flag }

/-- The part starts: the main domain is reset, and the marker chooses the sequence (R173). -/
def State.start (s : State) : State :=
  let s' := s.resetMain
  if s.backupValid then s'.restart else { s' with startup := true }

/-- PART_START: VDD has risen, or RESET_N has been released with VDD present (R173). -/
def execPartStart (s : State) : Host.Outcome State Fault Refusal :=
  .next { s with vdd := true, resetLow := false }.start

/-- The constituents, constants and ACTIVE sets that part 5 loads: the Factory Block's when its
check is good, the fixed logic's otherwise (R175 part 5, R177). -/
def State.loadDefaults (s : State) : State :=
  if s.factory.good then
    { s with
      constituents := s.factory.constituents, constants := s.factory.constants
      active := perHead s.factory.template }
  else
    { s with
      constituents := disabledConstituents, constants := defaultConstants
      active := perHead calibrationTemplate }

/-- The notices at the end of the backup-lost start-up (R175 part 7). -/
def State.startupNotices (s : State) : NoticeSet :=
  if s.factory.good then Notice.backupLost.flag
  else Notice.backupLost.flag ||| Notice.factoryBad.flag

/-- The backup-lost start-up, its parts 1 to 8 (R175). -/
def State.rebuildBackup (s : State) : State :=
  { s.loadDefaults with
    partition := .a, stations := [], nameIndex := [], occupations := [], loops := []
    clock := none
    staged := perHead none, calGen := perHead 0, tableGen := 0
    noticeMask := BitVec.allOnes 19, notices := s.startupNotices
    backupValid := true, startup := false }

/-- BACKUP_LOST_STARTUP: the sequence that is running ends; where none runs, nothing happens
(R175; log 4). -/
def execBackupLostStartup (s : State) : Host.Outcome State Fault Refusal :=
  .next (if s.running && s.startup then s.rebuildBackup else s)

/-- RESET_N_ASSERT: the part is held in reset; a sequence and a scan that were running are
abandoned (R22, R173, R181, R190). -/
def execResetNAssert (s : State) : Host.Outcome State Fault Refusal :=
  .next { s with resetLow := true, startup := false, scan := none }

/-- VDD_FAIL: the main domain is lost, VBK holds the backup domain (R172; log 10). -/
def execVddFail (s : State) : Host.Outcome State Fault Refusal :=
  .next { s.resetMain with vdd := false }

/-- The backup domain with its content lost and its marker not valid (R172; log 10). -/
def State.loseBackup (s : State) : State :=
  { s with
    partition := .a, stations := [], nameIndex := [], occupations := [], loops := []
    active := perHead calibrationTemplate, staged := perHead none, calGen := perHead 0
    constituents := disabledConstituents, tableGen := 0, constants := defaultConstants
    clock := none, noticeMask := BitVec.allOnes 19, backupValid := false }

/-- BACKUP_DOMAIN_LOSS: VDD and VBK are both below their holding levels (R172; log 10). -/
def execBackupDomainLoss (s : State) : Host.Outcome State Fault Refusal :=
  .next { s.resetMain.loseBackup with vdd := false }

end Sys2Proof.Machine
end

