-- ==== Sys2Proof/Machine/HeadIntake.lean ====
section
/-! DEFINITION. The Head Intake channels: receiving, checking, head states, counts (R26 to R39). -/

namespace Sys2Proof.Machine

/-- A count of a channel goes up, to stop at 4,294,967,295 (R26). -/
def channelCount (n k : Nat) : Nat := countUp Config.maxChannelCount n k

/-- A receiver with nothing held. -/
def Receiver.empty : Receiver := ⟨.hunting, []⟩

/-- A character in HUNTING or COLLECTING, short of the checking of a complete frame (R28). -/
def Receiver.take (r : Receiver) (b : Byte) : Receiver :=
  match r.phase with
  | .hunting =>
    if r.held = [Config.syncFirst] ∧ b = Config.syncSecond then
      ⟨.collecting, [Config.syncFirst, Config.syncSecond]⟩
    else if b = Config.syncFirst then ⟨.hunting, [Config.syncFirst]⟩
    else .empty
  | .collecting => ⟨.collecting, r.held ++ [b]⟩

/-- The search of a failed frame's bytes after its first sync byte, oldest first (R30 part 2). -/
def rescan (frame : List Byte) : Receiver := (frame.drop 1).foldl Receiver.take .empty

/-- A head frame's CRC-8 matches: bytes 3 to 13 against byte 14 (R30, R197). -/
def frameValid (frame : List Byte) : Bool := crc8 ((frame.drop 2).take 11) == frame.getD 13 0

/-- A frame is counted corrupt, the receiver left as given, and the corrupt frame is reported to
the engine (R27, R29, R30, R39; log 17). -/
def State.countCorrupt (s : State) (h : Head) (r : Receiver) : State :=
  let c := s.channels.get h
  (s.setChannel h { c with receiver := r, corrupt := channelCount c.corrupt 1 }).engineCorrupt h

/-- The number of missing frames before a valid frame (R31 part 1). -/
def Channel.missing (c : Channel) (sequence : Byte) : Nat :=
  match c.state, c.lastSequence with
  | .live, some l | .clamped, some l => (sequence - l - 1).toNat
  | _, _ => 0

/-- The channel's counts with a verdict (R37). -/
def Channel.countVerdict (c : Channel) : Verdict → Channel
  | .accepted => { c with accepted := channelCount c.accepted 1 }
  | .clamped => { c with rejectedClamped := channelCount c.rejectedClamped 1 }
  | .thermal => { c with rejectedThermal := channelCount c.rejectedThermal 1 }
  | .tilt => { c with rejectedTilt := channelCount c.rejectedTilt 1 }
  | .offscale => { c with rejectedOffscale := channelCount c.rejectedOffscale 1 }

/-- The channel after a valid frame (R31, R32, R37, R39). -/
def Channel.afterFrame (c : Channel) (timeBase : Nat) (x : Sample) : Channel :=
  { c with
    state := if x.clampFlag then .clamped else .live
    receiver := .empty
    rate := some x.rate
    lastSequence := some x.sequence
    lastValid := some timeBase
    gap := channelCount c.gap (c.missing x.sequence)
    lastSample := some x }.countVerdict x.verdict

/-- A valid frame is recorded, converted, screened, stamped and handed on, the gap before the
sample (R31 to R39). -/
def State.validFrame (s : State) (h : Head) (frame : List Byte) : State :=
  let c := s.channels.get h
  let x := sampleOf (s.activeSet h) s.now frame
  ((s.setChannel h (c.afterFrame s.timeBase x)).engineGap h (c.missing x.sequence)).engineSample h x

/-- A complete frame is checked (R30). -/
def State.checkFrame (s : State) (h : Head) (frame : List Byte) : State :=
  if frameValid frame then s.validFrame h frame else s.countCorrupt h (rescan frame)

/-- A character without framing error arrives (R28, R30). -/
def State.receiveCharacter (s : State) (h : Head) (b : Byte) : State :=
  let c := s.channels.get h
  let r := c.receiver.take b
  let s' := s.setChannel h { c with receiver := r, lastCharacter := some s.timeBase }
  if r.phase = .collecting ∧ Config.headFrameLength ≤ r.held.length then s'.checkFrame h r.held
  else s'

/-- A character with a framing error arrives (R27, R28). -/
def State.framingError (s : State) (h : Head) : State :=
  let c := s.channels.get h
  match c.receiver.phase with
  | .hunting => s.setChannel h { c with receiver := .empty }
  | .collecting => s.countCorrupt h .empty

/-- The 2 ms pause inside a frame has passed (R29). -/
def State.pauseDue (s : State) (h : Head) : Bool :=
  match (s.channels.get h).receiver.phase, (s.channels.get h).lastCharacter with
  | .collecting, some t => decide (t + Config.framePause ≤ s.timeBase)
  | _, _ => false

/-- The head timeout has passed since the last valid frame (R33). -/
def State.timeoutDue (s : State) (h : Head) : Bool :=
  match (s.channels.get h).state, (s.channels.get h).lastValid with
  | .live, some t | .clamped, some t => decide (t + 100 * (s.activeSet h).headTimeout ≤ s.timeBase)
  | _, _ => false

/-- A head whose timeout has passed becomes LOST, HEAD_LOST is set and the engine is told (R33). -/
def State.loseHead (s : State) (h : Head) : State :=
  if s.timeoutDue h then
    ((s.setChannel h { s.channels.get h with state := .lost }).setNotice
      (.headLost h)).engineHeadLost h
  else s

/-- Survey time has reached the settling deadline in SETTLING (R53, R159). -/
def State.settlingDue (s : State) (h : Head) : Bool :=
  match s.engines.get h, s.now with
  | .settling _ _ deadline, some t => decide (deadline ≤ t)
  | _, _ => false

/-- Survey time has reached the cap deadline in INTEGRATING (R61, R159). -/
def State.capDue (s : State) (h : Head) : Bool :=
  match s.engines.get h, s.now with
  | .integrating _ g, some t => decide (g.capDeadline ≤ t)
  | _, _ => false

end Sys2Proof.Machine
end

