-- ==== Sys2Proof/Machine/HeadEvents.lean ====
section
/-! DEFINITION. The events of the head lines (R27 to R33). -/

namespace Sys2Proof.Machine

/-- The part acts on an event only while it has VDD and RESET_N is not held low (log 9). -/
def State.whenRunning (s : State) (act : State → State) : State := if s.running then act s else s

/-- HEAD_FRAME: the character that completes a head frame, and its checking (R28, R30). -/
def execHeadFrame (h : Head) (last : Byte) (s : State) : Host.Outcome State Fault Refusal :=
  .next (s.whenRunning fun s => s.receiveCharacter h last)

/-- HEAD_LINE_CHARACTER: any other character without framing error (R28; log 6). -/
def execHeadLineCharacter (h : Head) (character : Byte) (s : State) :
    Host.Outcome State Fault Refusal :=
  .next (s.whenRunning fun s => s.receiveCharacter h character)

/-- CHARACTER_FRAMING_ERROR (R27, R28). -/
def execCharacterFramingError (h : Head) (s : State) : Host.Outcome State Fault Refusal :=
  .next (s.whenRunning fun s => s.framingError h)

/-- FRAME_BROKEN_OFF: 2 ms have passed inside a frame; otherwise nothing has (R29; log 3). -/
def execFrameBrokenOff (h : Head) (s : State) : Host.Outcome State Fault Refusal :=
  .next (s.whenRunning fun s => if s.pauseDue h then s.countCorrupt h .empty else s)

/-- HEAD_TIMEOUT: the head timeout has passed; otherwise nothing has (R33; log 3). -/
def execHeadTimeout (h : Head) (s : State) : Host.Outcome State Fault Refusal :=
  .next (s.whenRunning fun s => s.loseHead h)

end Sys2Proof.Machine
end

