-- ==== Sys2Proof/Machine/ClockEvents.lean ====
section
/-! DEFINITION. The seconds pulse, its loss, and the clock's largest value (R153, R157, R158). -/

namespace Sys2Proof.Machine

/-- A rising edge is accepted: no accepted pulse yet, or 900 ms since the last (R157). -/
def State.pulseAccepted (s : State) : Bool :=
  match s.pulse.lastPulse with
  | none => true
  | some t => decide (t + Config.pulseHoldOff ≤ s.timeBase)

/-- The offset a survey time shows at a pulse (R158 part 1). -/
def pulseOffset (t : TimeMs) : Int :=
  if t % 1000 < 500 then ((t % 1000 : Nat) : Int) else ((t % 1000 : Nat) : Int) - 1000

/-- The monitor after an accepted pulse: PULSING, the reading recorded, the offset measured when
the clock is RUNNING, the pending set used up (R157, R158 parts 1 and 2). -/
def State.pulsed (s : State) : PulseMonitor :=
  { pulsing := true
    lastPulse := some s.timeBase
    offset := match s.now with
      | some t => some (pulseOffset t)
      | none => s.pulse.offset
    pendingSet := none }

/-- The offset measured at this pulse is beyond the tolerance, and no set took effect
(R158 part 3). -/
def State.offsetBeyond (s : State) : Bool :=
  match s.pulse.pendingSet, s.now with
  | none, some t => decide (s.constants.pulseTolerance < (pulseOffset t).natAbs)
  | _, _ => false

/-- An accepted pulse, its parts in order (R158). -/
def State.acceptPulse (s : State) : State :=
  let s' := { s with
    pulse := s.pulsed
    clock := match s.pulse.pendingSet with
      | some sec => some (1000 * sec)
      | none => s.clock }
  if s.offsetBeyond then s'.setNotice .pulseOffset else s'

/-- TIME_PULSE: an edge less than 900 ms after the last accepted pulse changes nothing
(R157, R158). -/
def execTimePulse (s : State) : Host.Outcome State Fault Refusal :=
  .next (s.whenRunning fun s => if s.pulseAccepted then s.acceptPulse else s)

/-- 2.5 s have passed since the last accepted pulse in PULSING (R157). -/
def State.pulseLossDue (s : State) : Bool :=
  match s.pulse.pulsing, s.pulse.lastPulse with
  | true, some t => decide (t + Config.pulseLossAfter ≤ s.timeBase)
  | _, _ => false

/-- PULSE_LOSS: NO_PULSE and PULSE_LOST together, when the time has passed (R157; log 3). -/
def execPulseLoss (s : State) : Host.Outcome State Fault Refusal :=
  .next (s.whenRunning fun s =>
    if s.pulseLossDue then
      { s with pulse := { s.pulse with pulsing := false } }.setNotice .pulseLost
    else s)

/-- CLOCK_HOLD_AT_MAX: survey time is held at its largest value, under VDD or VBK (R153, R172). -/
def execClockHoldAtMax (s : State) : Host.Outcome State Fault Refusal :=
  .next { s with clock := s.clock.map holdAtMax }

end Sys2Proof.Machine
end

