-- ==== Sys2Proof/Machine/EngineEvents.lean ====
section
/-! DEFINITION. The events of the Occupation Engines, the end of a tide evaluation and the end of
a drift application (R51, R53, R59, R61, R105, R124). -/

namespace Sys2Proof.Machine

/-- SETTLE_COUNT_REACHED: the settle counter stands at the settle count (R51; log 7). -/
def execSettleCountReached (h : Head) (s : State) : Host.Outcome State Fault Refusal :=
  .next (s.whenRunning fun s => s.settleReached h)

/-- TARGET_REACHED: the accepted count stands at the target (R59; log 7). -/
def execTargetReached (h : Head) (s : State) : Host.Outcome State Fault Refusal :=
  .next (s.whenRunning fun s => s.targetReached h)

/-- SETTLING_DEADLINE: the deadline has passed in SETTLING; otherwise nothing has (R53; log 3). -/
def execSettlingDeadline (h : Head) (s : State) : Host.Outcome State Fault Refusal :=
  .next (s.whenRunning fun s => if s.settlingDue h then s.failOccupation h .unsettled else s)

/-- CAP_DEADLINE: the cap has passed in INTEGRATING; otherwise nothing has (R61; log 3). -/
def execCapDeadline (h : Head) (s : State) : Host.Outcome State Fault Refusal :=
  .next (s.whenRunning fun s => if s.capDue h then s.capIntegration h else s)

/-- TIDE_EVALUATION_COMPLETE (R103 to R106). -/
def execTideEvaluationComplete (s : State) : Host.Outcome State Fault Refusal :=
  .next (s.whenRunning State.completeEvaluation)

/-- The DRIFT_APPLY item in flight, if there is one, completes and the engine goes on (R124, R142). -/
def State.endApply (s : State) : State :=
  match s.applying with
  | some k => (s.completeApply k).revise true
  | none => s

/-- DRIFT_APPLY_COMPLETE (R124). -/
def execDriftApplyComplete (s : State) : Host.Outcome State Fault Refusal :=
  .next (s.whenRunning State.endApply)

end Sys2Proof.Machine
end

