-- ==== Sys2Proof/Machine/Ticks.lean ====
section
/-! DEFINITION. What a step on an empty queue does: one millisecond passes, and the commands that
have come due wait in the queue (log 2, log 4). -/

namespace Sys2Proof.Machine

/-- A command that is due when a condition holds. -/
def dueWhen (b : Bool) (c : Instr) : List Instr := if b then [c] else []

/-- The time-driven commands due on one head (R29, R33, R53, R61). DESIGN CHOICE: those that fall due in
the same millisecond are queued in this order; the spec gives none (log 26). -/
def State.dueOnHead (s : State) (h : Head) : List Instr :=
  dueWhen (s.pauseDue h) (.frameBrokenOff h) ++ dueWhen (s.timeoutDue h) (.headTimeout h)
    ++ dueWhen (s.settlingDue h) (.settlingDeadline h) ++ dueWhen (s.capDue h) (.capDeadline h)

/-- The commands due on a running part: time-driven ones, heads 0 to 3 in turn, and the ends of the work
in progress (R22, R104, R142, R157, R175). DESIGN CHOICE: their order within one millisecond
(log 26). -/
def State.dueRunning (s : State) : List Instr :=
  dueWhen s.startup .backupLostStartup
    ++ allHeads.flatMap s.dueOnHead
    ++ dueWhen s.pulseLossDue .pulseLoss
    ++ dueWhen s.tide.evaluation.isSome .tideEvaluationComplete
    ++ dueWhen s.applying.isSome .driftApplyComplete
    ++ dueWhen s.scan.isSome .findNearScanEnd

/-- The clock has just come to its largest value (R153). -/
def State.reachedMax (before after : State) : Bool :=
  after.clock == some Config.maxSurveyTime && before.clock != after.clock

/-- The state after one millisecond, with what has come due in the queue (log 2). -/
def State.tick (s : State) : State :=
  let s' := s.passMillisecond
  { s' with
    pending := dueWhen (s.reachedMax s') .clockHoldAtMax
      ++ (if s'.running then s'.dueRunning else []) }

end Sys2Proof.Machine
end

