-- ==== Sys2Proof/Machine/Operands.lean ====
section
/-! DEFINITION. The operands of requests: how a payload is read (R199), and the checks and clamps
on operands that several requests share (R7, R9, R164, R165, R170). -/

namespace Sys2Proof.Machine

/-! ## Names and coordinates -/

/-- A name's 12 bytes end at the first 0x00 (R199 part 2). -/
def nameField (at_ : Nat) (p : List Byte) : List Byte := (fieldBytes at_ 12 p).takeWhile (· != 0)

/-- A name as it is sent: padded with 0x00 to 12 bytes (R199 part 2). -/
def nameBytes (n : Name) : List Byte := n ++ List.replicate (12 - n.length) 0

/-- A lowercase letter is folded to its uppercase letter (R7). -/
def foldCharacter (b : Byte) : Byte := if 0x61 ≤ b.toNat ∧ b.toNat ≤ 0x7A then b - 0x20 else b

/-- A character a name may hold: A to Z, 0 to 9, hyphen, underscore, full stop (R7, R199). -/
def nameCharacter (b : Byte) : Bool :=
  (0x41 ≤ b.toNat && b.toNat ≤ 0x5A) || (0x30 ≤ b.toNat && b.toNat ≤ 0x39)
    || b == 0x2D || b == 0x5F || b == 0x2E

/-- The folded name, if it is legal (R7). -/
def legalName (raw : List Byte) : Option Name :=
  let n := raw.map foldCharacter
  if n.isEmpty || !n.all nameCharacter then none else some n

/-- A latitude in range (R9). -/
def normLatitude (v : Int) : Option Int :=
  if -90000000 ≤ v ∧ v ≤ 90000000 then some v else none

/-- A longitude in range, wrapped by one turn where it must be (R9). -/
def normLongitude (v : Int) : Option Int :=
  if v < -360000000 ∨ 360000000 < v then none
  else if v < -180000000 then some (v + 360000000)
  else if 180000000 ≤ v then some (v - 360000000)
  else some v

/-! ## Requests of several operands -/

/-- DECLARE_STATION: name 12, role 1, latitude 4, longitude 4 (R199). -/
structure DeclareOperands where
  name : List Byte
  role : Byte
  latitude : Int
  longitude : Int
  deriving DecidableEq, Repr

def DeclareOperands.ofPayload (p : List Byte) : DeclareOperands :=
  { name := nameField 0 p, role := p.getD 12 0, latitude := fieldInt 13 4 p
    longitude := fieldInt 17 4 p }

def DeclareOperands.toPayload (o : DeclareOperands) : List Byte :=
  nameBytes o.name ++ [o.role] ++ beSignedBytes 4 o.latitude ++ beSignedBytes 4 o.longitude

/-- EDIT_STATION: slot 2, presence mask 1, name 12, role 1, latitude 4, longitude 4; an operand
the mask leaves out is absent (R199). -/
structure EditOperands where
  slot : Nat
  name : Option (List Byte)
  role : Option Byte
  latitude : Option Int
  longitude : Option Int
  deriving DecidableEq, Repr

def EditOperands.ofPayload (p : List Byte) : EditOperands :=
  let mask := p.getD 2 0
  { slot := fieldNat 0 2 p
    name := if mask.getLsbD 0 then some (nameField 3 p) else none
    role := if mask.getLsbD 1 then some (p.getD 15 0) else none
    latitude := if mask.getLsbD 2 then some (fieldInt 16 4 p) else none
    longitude := if mask.getLsbD 3 then some (fieldInt 20 4 p) else none }

def EditOperands.mask (o : EditOperands) : Nat :=
  (if o.name.isSome then 1 else 0) + (if o.role.isSome then 2 else 0)
    + (if o.latitude.isSome then 4 else 0) + (if o.longitude.isSome then 8 else 0)

def EditOperands.toPayload (o : EditOperands) : List Byte :=
  beBytes 2 o.slot ++ beBytes 1 o.mask ++ nameBytes (o.name.getD []) ++ [o.role.getD 0]
    ++ beSignedBytes 4 (o.latitude.getD 0) ++ beSignedBytes 4 (o.longitude.getD 0)

/-- An optional operand through a check: an absent one passes, an illegal one fails (R15 part 2). -/
def checkCarried {α β : Type} (check : α → Option β) : Option α → Option (Option β)
  | none => some none
  | some a => (check a).map some

/-- WRITE_CONSTITUENT from the enabled operand on, brought into range (R108). -/
def constituentOf (species : Species) (p : List Byte) : Constituent :=
  { enabled := p.getD 1 0 != 0
    species := species
    speed := fieldNat 3 6 p
    v0 := fieldNat 9 4 p
    amplitude := clampInt (-8191) 8191 (fieldInt 13 2 p)
    delta := clampNat 0 32767 (fieldNat 15 2 p) }

/-- SET_CONSTANTS: presence mask 1, drift limit 4, spread limit 4, pulse tolerance 2, each carried
constant clamped (R170, R199). -/
structure ConstantsOperands where
  driftLimit : Option Nat
  spreadLimit : Option Nat
  pulseTolerance : Option Nat
  deriving DecidableEq, Repr

def ConstantsOperands.ofPayload (p : List Byte) : ConstantsOperands :=
  let mask := p.getD 0 0
  { driftLimit := if mask.getLsbD 0 then some (clampNat 1 655360 (fieldNat 1 4 p)) else none
    spreadLimit := if mask.getLsbD 1 then some (clampNat 1 100000 (fieldNat 5 4 p)) else none
    pulseTolerance := if mask.getLsbD 2 then some (clampNat 1 200 (fieldNat 9 2 p)) else none }

/-! ## STAGE_CALIBRATION -/

/-- `n` breakpoints of a payload from its head on: count 3, gravity 4, the gravity clamped
(R165 part 1, R199). -/
def readBreakpoints : Nat → List Byte → List Breakpoint
  | 0, _ => []
  | n + 1, p => ⟨fieldNat 0 3 p, clampNat 0 83886075 (fieldNat 3 4 p)⟩ :: readBreakpoints n (p.drop 7)

/-- Each breakpoint count is greater than the one before it (R164 part 3). -/
def risingCounts : List Breakpoint → Bool
  | p :: q :: rest => decide (p.count < q.count) && risingCounts (q :: rest)
  | _ => true

/-- The set a STAGE_CALIBRATION payload carries after its head byte, every field brought into
range in the order of R165. -/
def clampedSet (p : List Byte) : CalibrationSet :=
  let tiltWindow := clampNat 100 20000 (fieldNat 9 2 p)
  let bandN := clampNat 1 1000 (fieldNat 15 2 p)
  { table := readBreakpoints (p.getD 28 0).toNat (p.drop 29)
    tiltZeroX := fieldInt 1 2 p
    tiltZeroY := fieldInt 3 2 p
    tiltGainX := clampNat 1 4095 (fieldNat 5 2 p)
    tiltGainY := clampNat 1 4095 (fieldNat 7 2 p)
    tiltWindow := tiltWindow
    settleWindow := clampNat 1 tiltWindow (fieldNat 11 2 p)
    tempZero := fieldInt 13 2 p
    bandN := bandN
    bandE := clampNat bandN 10000 (fieldNat 17 2 p)
    kN := clampInt (-32767) 32767 (fieldInt 19 2 p)
    kE := clampInt (-32767) 32767 (fieldInt 21 2 p)
    settleCount := clampNat 10 1000 (fieldNat 23 2 p)
    settlingTimeout := clampNat 30 3600 (fieldNat 25 2 p)
    headTimeout := clampNat 5 100 (p.getD 27 0).toNat }

/-- The head and the set of a STAGE_CALIBRATION payload, by the checks of R164. -/
def stageOperands (p : List Byte) : Option (Head × CalibrationSet) :=
  let n := (p.getD 28 0).toNat
  if p.length < 29 then none
  else match Head.ofCode (p.getD 0 0) with
    | none => none
    | some h =>
      if n < 2 ∨ 24 < n ∨ p.length ≠ 29 + 7 * n then none
      else if risingCounts (clampedSet p).table then some (h, clampedSet p)
      else none

/-- A STAGE_CALIBRATION payload (R199). -/
def stagePayload (h : Head) (set : CalibrationSet) : List Byte :=
  beBytes 1 h.code ++ calibrationBytes set

/-- The ranges of R163, the two bounds that tie fields together among them. -/
abbrev CalibrationSet.inRange (s : CalibrationSet) : Prop :=
  2 ≤ s.table.length ∧ s.table.length ≤ 24 ∧ risingCounts s.table = true
    ∧ (∀ p ∈ s.table, p.count ≤ 16777215 ∧ p.gravity ≤ 83886075)
    ∧ -32768 ≤ s.tiltZeroX ∧ s.tiltZeroX ≤ 32767 ∧ -32768 ≤ s.tiltZeroY ∧ s.tiltZeroY ≤ 32767
    ∧ 1 ≤ s.tiltGainX ∧ s.tiltGainX ≤ 4095 ∧ 1 ≤ s.tiltGainY ∧ s.tiltGainY ≤ 4095
    ∧ 100 ≤ s.tiltWindow ∧ s.tiltWindow ≤ 20000
    ∧ 1 ≤ s.settleWindow ∧ s.settleWindow ≤ s.tiltWindow
    ∧ -32768 ≤ s.tempZero ∧ s.tempZero ≤ 32767
    ∧ 1 ≤ s.bandN ∧ s.bandN ≤ 1000 ∧ s.bandN ≤ s.bandE ∧ s.bandE ≤ 10000
    ∧ -32767 ≤ s.kN ∧ s.kN ≤ 32767 ∧ -32767 ≤ s.kE ∧ s.kE ≤ 32767
    ∧ 10 ≤ s.settleCount ∧ s.settleCount ≤ 1000
    ∧ 30 ≤ s.settlingTimeout ∧ s.settlingTimeout ≤ 3600
    ∧ 5 ≤ s.headTimeout ∧ s.headTimeout ≤ 100

end Sys2Proof.Machine
end

