-- ==== Sys2Proof/Machine/Layouts.lean ====
section
/-! DEFINITION. The payloads of responses (R199, R200). -/

namespace Sys2Proof.Machine

/-- The station answer (R200). -/
def stationBytes (slot : Nat) (st : Station) : List Byte :=
  beBytes 2 slot ++ beBytes 1 st.state.code ++ nameBytes st.name ++ beBytes 1 st.role.code
    ++ beSignedBytes 4 st.latitude ++ beSignedBytes 4 st.longitude ++ beBytes 2 st.coordGen.toNat
    ++ optionalInt 8 st.adopted ++ optionalInt 8 st.spread
    ++ beBytes 1 st.weightTotal ++ yesNo st.discordant ++ yesNo st.valueStale
    ++ beBytes 1 st.chain.length ++ st.chain.flatMap (beBytes 2)

/-- One step of the occupation answer (R200). -/
def stepBytes (k : TideStep) : List Byte :=
  beBytes 4 k.index ++ beBytes 2 k.count ++ optionalInt 4 (k.value.map (·.tide))
    ++ beBytes 2 ((k.value.map (·.coordGen.toNat)).getD 0)
    ++ beBytes 2 ((k.value.map (·.tableGen.toNat)).getD 0)

/-- The eight counts (R200). -/
def countsBytes (k : OccCounts) : List Byte :=
  beBytes 2 k.accepted ++ beBytes 2 k.extended ++ beBytes 2 k.clamped ++ beBytes 2 k.thermal
    ++ beBytes 2 k.tilt ++ beBytes 2 k.offscale ++ beBytes 2 k.corrupt ++ beBytes 2 k.gap

/-- An engine's settle counter; 0 outside SETTLING. -/
def Engine.settleCounter : Engine → Nat
  | .settling _ n _ => n
  | _ => 0

/-- The engine state and settle counter of the occupation answer: those of the head for an OPEN
record, absent otherwise (R69, R200). -/
def engineBytes (o : Occupation) (e : Engine) : List Byte :=
  if o.state = .opened then beBytes 1 e.code ++ beBytes 2 e.settleCounter
  else 0xFF :: beBytes 2 0

/-- The occupation answer (R200). -/
def occupationBytes (n : Nat) (o : Occupation) (e : Engine) : List Byte :=
  beBytes 2 n ++ beBytes 2 o.station ++ beBytes 1 o.head.code ++ beBytes 1 o.state.code
    ++ optionalCode (o.state.cause?.map FailCause.code)
    ++ engineBytes o e
    ++ yesNo o.included ++ timeBytes o.openedAt ++ beBytes 1 o.rate.perSecond
    ++ beBytes 2 o.granted ++ beBytes 2 o.target ++ beBytes 2 o.calGen.toNat
    ++ countsBytes o.counts
    ++ optionalCode (o.grade.map Grade.code) ++ beBytes 1 ((o.grade.map Grade.weight).getD 0)
    ++ optionalNat 4 o.midTime ++ optionalInt 4 o.readingMean ++ optionalInt 4 o.tideMean
    ++ yesNo o.tideStale
    ++ optionalInt 8 o.drift ++ yesNo o.driftFrozen
    ++ optionalCode o.driftLoop ++ optionalCode o.anchorsLoop
    ++ optionalInt 8 o.value
    ++ beBytes 1 o.steps.length ++ o.steps.flatMap stepBytes

/-- An occupation's number with its mid-time (R200). -/
def State.midBytes (s : State) (n : Nat) : List Byte :=
  beBytes 2 n ++ beBytes 4 (((Table.get s.occupations n).map Occupation.mid).getD 0)

/-- The loop answer (R200). -/
def State.loopBytes (s : State) (k : Nat) (l : Loop) : List Byte :=
  beBytes 1 k ++ beBytes 1 l.head.code ++ beBytes 1 l.state.code ++ beBytes 2 l.base
    ++ s.midBytes l.opener
    ++ (match l.closer with
        | some c => 1 :: s.midBytes c
        | none => 0 :: beBytes 6 0)
    ++ beBytes 2 l.calGen.toNat ++ optionalInt 4 l.rate
    ++ beBytes 1 l.members.length ++ l.members.flatMap s.midBytes

/-- The flags of a sample: bit 0 clamp, bit 1 heater fault (R200). DESIGN CHOICE: the other bits, 2 to
7, are sent as 0 (log 28). -/
def flagsByte (x : Sample) : List Byte :=
  beBytes 1 ((if x.clampFlag then 1 else 0) + (if x.heaterFault then 2 else 0))

/-- The last converted sample (R200). -/
def sampleBytes (x : Sample) : List Byte :=
  [x.sequence] ++ beBytes 1 x.rate.perSecond ++ beBytes 3 x.count
    ++ beSignedBytes 2 x.ux ++ beSignedBytes 2 x.uy ++ beSignedBytes 2 x.deltaT
    ++ beBytes 1 x.regime.code ++ flagsByte x ++ optionalTime x.time ++ beBytes 1 x.verdict.code

/-- The time since a reading of the time base, held at 65,535 ms (R41, R160). -/
def State.since (s : State) (reading : Option Nat) : Option Nat :=
  reading.map fun t => min (s.timeBase - t) Config.maxReportedAge

/-- The head answer (R200). -/
def State.headBytes (s : State) (h : Head) : List Byte :=
  let c := s.channels.get h
  beBytes 1 c.state.code ++ optionalNat 1 (c.rate.map RateClass.perSecond)
    ++ optionalNat 1 (c.lastSequence.map BitVec.toNat)
    ++ optionalNat 2 (s.since c.lastValid)
    ++ beBytes 1 (s.activeSet h).headTimeout
    ++ beBytes 4 c.corrupt ++ beBytes 4 c.gap ++ beBytes 4 c.accepted
    ++ beBytes 4 c.rejectedClamped ++ beBytes 4 c.rejectedThermal
    ++ beBytes 4 c.rejectedTilt ++ beBytes 4 c.rejectedOffscale
    ++ beBytes 1 (s.engines.get h).code
    ++ (match c.lastSample with
        | some x => 1 :: sampleBytes x
        | none => 0 :: beBytes 21 0)

/-- One head of the status answer: engine state and OPEN occupation (R200). -/
def engineStatusBytes (e : Engine) : List Byte :=
  beBytes 1 e.code ++ beBytes 2 ((e.session?.map Session.occupation).getD 0xFFFF)

/-- The item in flight as kind and target (R193, R200). -/
def InFlight.item : InFlight → RevItem
  | .tideRedo o _ _ => ⟨.tideRedo, o⟩
  | .driftApply l _ => ⟨.driftApply, l⟩

/-- A set of notices as 4 bytes (R199). -/
def noticeBytes (n : NoticeSet) : List Byte := beBytes 4 n.toNat

/-- The status answer (R200). -/
def State.statusBytes (s : State) : List Byte :=
  allHeads.flatMap (fun h => engineStatusBytes (s.engines.get h))
    ++ beBytes 2 s.revQueue.length
    ++ (match s.inFlight with
        | some f => 1 :: (beBytes 1 f.item.kind.code ++ beBytes 2 f.item.target)
        | none => 0 :: beBytes 3 0)
    ++ yesNo s.revisionBusy ++ beBytes 1 s.partition.code
    ++ noticeBytes s.notices ++ noticeBytes s.noticeMask ++ yesNo s.attn

/-- The time answer (R200). -/
def State.timeAnswerBytes (s : State) : List Byte :=
  yesNo s.clock.isSome ++ optionalTime s.clock ++ yesNo s.pulse.pulsing
    ++ optionalInt 2 s.pulse.offset ++ optionalNat 2 (s.since s.pulse.lastPulse)
    ++ optionalNat 4 s.pulse.pendingSet ++ beBytes 2 s.constants.pulseTolerance

/-- The calibration answer: generation, STAGED present, OPEN loop, then the set (R168, R199). -/
def State.calibrationAnswerBytes (s : State) (h : Head) (set : CalibrationSet) : List Byte :=
  beBytes 2 (s.calGen.get h).toNat ++ yesNo (s.staged.get h).isSome ++ yesNo (s.openLoop h).isSome
    ++ calibrationBytes set

/-- The constituent answer (R110). -/
def constituentAnswerBytes (i : Nat) (c : Constituent) (tableGen : Gen) : List Byte :=
  beBytes 1 i ++ constituentBytes c ++ beBytes 2 tableGen.toNat

end Sys2Proof.Machine
end

