-- ==== Sys2Proof/Machine/Link.lean ====
section
/-! DEFINITION. The Console Link: request frames, responses, cuts (R181 to R188). -/

namespace Sys2Proof.Machine

/-- A DONE answer. -/
def done (p : List Byte) : Answer := ⟨.done, p⟩

/-- A refusal: its payload is empty (R186). -/
def refusal (c : ResponseCode) : Answer := ⟨c, []⟩

/-- The bytes of a request or response after its marker: code, tag, payload length, payload, CRC-16
over all of these (R183, R186, R198). -/
def frameBody (code tag : Byte) (payload : List Byte) : List Byte :=
  let covered := code :: tag :: (beBytes 2 payload.length ++ payload)
  covered ++ beBytes 2 (crc16 covered).toNat

/-- The response frame (R186, R198). -/
def responseFrame (tag : Byte) (a : Answer) : List Byte :=
  Config.responseMarker :: frameBody (BitVec.ofNat 8 a.code.code) tag a.payload

/-- A request frame (R183, R198). -/
def requestFrame (code tag : Byte) (payload : List Byte) : List Byte :=
  Config.requestMarker :: frameBody code tag payload

/-- A read answer cut to the console's maximum length and to 512 bytes (R188). -/
def cut (maximum : Nat) (a : Answer) : Answer :=
  { a with payload := a.payload.take (min maximum Config.maxPayload) }

/-- The response is built: the slot empties and the link becomes ANSWERED (R186). -/
def State.respond (s : State) (tag : Byte) (a : Answer) : State :=
  { s with link := .answered (responseFrame tag a) }

/-- A request and the owner that serves it. -/
abbrev Server := List Byte → State → State × Answer

/-- A request of fixed form: another payload length is BAD_FIELD and reaches no owner (R185). -/
def fixedForm (n : Nat) (serve : Server) : Server := fun p s =>
  if p.length = n then serve p s else (s, refusal .badField)

/-- The state in which an owner serves a request: the status byte was shifted out (R182) and the
frame was good (R183). -/
def State.taken (s : State) : State := { s with miso := [s.statusByte], lastRejected := false }

/-- The state after a bad request frame: the status byte was shifted out, and the frame is
discarded (R182, R183). -/
def State.rejected (s : State) : State := { s with miso := [s.statusByte], lastRejected := true }

/-- A request frame with a correct CRC-16 arrives, other than LINK_RESET (R178, R182 to R185):
bad above 512 payload bytes; ignored in WORKING; answered BUSY while the backup-lost start-up
runs; otherwise taken, and `act` is what comes of it. -/
def State.receiveFrame (s : State) (tag : Byte) (payload : List Byte) (act : State → State) : State :=
  if !s.running then s
  else if Config.maxPayload < payload.length then s.rejected
  else match s.link with
    | .working _ => s.taken
    | _ => if s.startup then s.taken.respond tag (refusal .busy) else act s.taken

/-- A request that its owner serves and answers in one step (R185, R186). -/
def State.request (s : State) (tag : Byte) (payload : List Byte) (serve : Server) : State :=
  s.receiveFrame tag payload fun s' => (serve payload s').1.respond tag (serve payload s').2

/-- The maximum length operand, the last two bytes of a read request (R188, R199). -/
def maximumLength (p : List Byte) : Nat := beNat (p.drop (p.length - 2))

/-- A read request: it changes nothing, and its answer is cut (R188). -/
def readForm (n : Nat) (answer : List Byte → State → Answer) : Server :=
  fixedForm n fun p s => (s, cut (maximumLength p) (answer p s))

/-- A slot check that comes before the request's own checks (R12). -/
def State.checkSlot (s : State) (slot : Nat) : Except ResponseCode Station :=
  if s.partition.slots ≤ slot then .error .badField
  else match Table.get s.stations slot with
    | none => .error .notFound
    | some st => .ok st

/-- An occupation number check that comes before the request's own checks (R47). -/
def State.checkOccupation (s : State) (n : Nat) : Except ResponseCode Occupation :=
  if s.partition.records ≤ n then .error .badField
  else match Table.get s.occupations n with
    | none => .error .notFound
    | some o => .ok o

/-- A loop number check (R125, R127, R131). -/
def State.checkLoop (s : State) (k : Nat) : Except ResponseCode Loop :=
  if Config.loopEntries ≤ k then .error .badField
  else match Table.get s.loops k with
    | none => .error .notFound
    | some l => .ok l

end Sys2Proof.Machine
end

