-- ==== Sys2Proof/Machine/ClockRequests.lean ====
section
/-! DEFINITION. The requests on time (R155, R156, R160). -/

namespace Sys2Proof.Machine

/-- SET_TIME accepted: survey time is set, the clock runs, a pending set is dropped (R155). -/
def State.setTime (s : State) (t : TimeMs) : State :=
  { s with clock := some t, pulse := { s.pulse with pendingSet := none } }

/-- SET_TIME (R155): the answer is the time as set, the time replaced, and whether a pending set
was dropped. -/
def setTime (seconds milliseconds : Nat) (s : State) : State × Answer :=
  if 999 < milliseconds then (s, refusal .badField)
  else if s.anyOpen then (s, refusal .busy)
  else
    let t := 1000 * seconds + milliseconds
    (s.setTime t, done (timeBytes t ++ optionalTime s.clock ++ yesNo s.pulse.pendingSet.isSome))

def serveSetTime : Server := fixedForm 6 fun p s => setTime (fieldNat 0 4 p) (fieldNat 4 2 p) s

/-- SET_TIME (R155). -/
def execSetTime (tag : Byte) (p : List Byte) (s : State) : Host.Outcome State Fault Refusal :=
  .next (s.request tag p serveSetTime)

/-- SYNC_TO_PULSE (R156): the answer is the pulse state and whether a pending set was replaced. -/
def syncToPulse (seconds : Nat) (s : State) : State × Answer :=
  if s.anyOpen then (s, refusal .busy)
  else
    ({ s with pulse := { s.pulse with pendingSet := some seconds } },
      done (yesNo s.pulse.pulsing ++ yesNo s.pulse.pendingSet.isSome))

def serveSyncToPulse : Server := fixedForm 4 fun p s => syncToPulse (fieldNat 0 4 p) s

/-- SYNC_TO_PULSE (R156). -/
def execSyncToPulse (tag : Byte) (p : List Byte) (s : State) : Host.Outcome State Fault Refusal :=
  .next (s.request tag p serveSyncToPulse)

def serveReadTime : Server := readForm 2 fun _ s => done s.timeAnswerBytes

/-- READ_TIME (R160). -/
def execReadTime (tag : Byte) (p : List Byte) (s : State) : Host.Outcome State Fault Refusal :=
  .next (s.request tag p serveReadTime)

end Sys2Proof.Machine
end

