-- ==== Sys2Proof/Machine/CoefficientRequests.lean ====
section
/-! DEFINITION. The requests on calibration sets, constituents and survey constants (R108 to R110,
R164 to R171). -/

namespace Sys2Proof.Machine

/-! ## STAGE_CALIBRATION -/

/-- STAGE_CALIBRATION (R164, R165): the answer is the set as stored, whether an earlier STAGED set
was replaced, and whether the head has an OPEN loop (log 14). -/
def stageCalibration (p : List Byte) (s : State) : State × Answer :=
  match stageOperands p with
  | none => (s, refusal .badField)
  | some (h, set) =>
    ({ s with staged := s.staged.set h (some set) },
      done (calibrationBytes set ++ yesNo (s.staged.get h).isSome ++ yesNo (s.openLoop h).isSome))

def serveStageCalibration : Server := stageCalibration

/-- STAGE_CALIBRATION (R164, R165). -/
def execStageCalibration (tag : Byte) (p : List Byte) (s : State) :
    Host.Outcome State Fault Refusal :=
  .next (s.request tag p serveStageCalibration)

/-! ## READ_CALIBRATION -/

/-- Which set READ_CALIBRATION asks for: ACTIVE 0, STAGED 1 (R199). -/
def State.askedSet (s : State) (h : Head) (which : Byte) : Except ResponseCode CalibrationSet :=
  match which.toNat with
  | 0 => .ok (s.active.get h)
  | 1 =>
    match s.staged.get h with
    | some set => .ok set
    | none => .error .notFound
  | _ => .error .badField

/-- READ_CALIBRATION (R168). -/
def readCalibration (head which : Byte) (s : State) : Answer :=
  match Head.ofCode head with
  | none => refusal .badField
  | some h =>
    match s.askedSet h which with
    | .error c => refusal c
    | .ok set => done (s.calibrationAnswerBytes h set)

def serveReadCalibration : Server := readForm 4 fun p s => readCalibration (p.getD 0 0) (p.getD 1 0) s

/-- READ_CALIBRATION (R168). -/
def execReadCalibration (tag : Byte) (p : List Byte) (s : State) :
    Host.Outcome State Fault Refusal :=
  .next (s.request tag p serveReadCalibration)

/-! ## WRITE_CONSTITUENT, READ_CONSTITUENT -/

/-- The CLOSED occupations in ascending number (R109). -/
def State.allClosed (s : State) : List Nat :=
  Table.keysWhere s.occupations fun o => o.state == .closed

/-- An accepted constituent write (R109). -/
def State.writeEntry (s : State) (i : Nat) (c : Constituent) : State :=
  ({ s with
    constituents := s.constituents.set i c
    tableGen := s.tableGen + 1 }.markTideStale s.allClosed).revise s.revisionBusy

/-- WRITE_CONSTITUENT (R108, R109): the answer is the entry as stored, the new table generation
and the number of occupations marked (log 14). -/
def writeConstituent (p : List Byte) (s : State) : State × Answer :=
  let i := (p.getD 0 0).toNat
  if 11 < i then (s, refusal .badField)
  else match Species.ofCode (p.getD 2 0) with
    | none => (s, refusal .badField)
    | some sp =>
      let c := constituentOf sp p
      (s.writeEntry i c,
        done (constituentBytes c ++ beBytes 2 (s.tableGen + 1).toNat
          ++ beBytes 2 s.allClosed.length))

def serveWriteConstituent : Server := fixedForm 17 writeConstituent

/-- WRITE_CONSTITUENT (R108, R109). -/
def execWriteConstituent (tag : Byte) (p : List Byte) (s : State) :
    Host.Outcome State Fault Refusal :=
  .next (s.request tag p serveWriteConstituent)

/-- READ_CONSTITUENT (R110). -/
def readConstituent (i : Nat) (s : State) : Answer :=
  match s.constituents[i]? with
  | none => refusal .badField
  | some c => done (constituentAnswerBytes i c s.tableGen)

def serveReadConstituent : Server := readForm 3 fun p s => readConstituent (fieldNat 0 1 p) s

/-- READ_CONSTITUENT (R110). -/
def execReadConstituent (tag : Byte) (p : List Byte) (s : State) :
    Host.Outcome State Fault Refusal :=
  .next (s.request tag p serveReadConstituent)

/-! ## SET_CONSTANTS -/

/-- The constants with those carried written (R170). -/
def SurveyConstants.carry (c : SurveyConstants) (o : ConstantsOperands) : SurveyConstants :=
  { driftLimit := o.driftLimit.getD c.driftLimit
    spreadLimit := o.spreadLimit.getD c.spreadLimit
    pulseTolerance := o.pulseTolerance.getD c.pulseTolerance }

/-- The loops a carried drift limit queues: CLOSED and SUSPECT, ascending (R171 part 1). -/
def State.loopsToReapply (s : State) (o : ConstantsOperands) : List Nat :=
  if o.driftLimit.isSome then Table.keysWhere s.loops Loop.applied else []

/-- The stations a carried spread limit queues: every non-FREE one, ascending (R171 part 2). -/
def State.stationsToJudge (s : State) (o : ConstantsOperands) : List Nat :=
  if o.spreadLimit.isSome then Table.keysWhere s.stations fun _ => true else []

/-- The items a constant write queues, the loops first (R171). -/
def State.constantItems (s : State) (o : ConstantsOperands) : List RevItem :=
  (s.loopsToReapply o).map (RevItem.mk .driftApply)
    ++ (s.stationsToJudge o).map (RevItem.mk .stationValue)

/-- SET_CONSTANTS writes the constants carried and queues their work (R170, R171). -/
def State.writeConstants (s : State) (o : ConstantsOperands) : State :=
  ({ s with constants := s.constants.carry o }.queueAll (s.constantItems o)).revise s.revisionBusy

/-- SET_CONSTANTS (R170, R171): the answer is the three constants after the write, the number of
loops made CLOSING and the number of stations queued. DESIGN CHOICE: every non-FREE station is
counted as queued, one whose item already waits among them (log 14). -/
def setConstants (o : ConstantsOperands) (s : State) : State × Answer :=
  (s.writeConstants o,
    done (constantsBytes (s.constants.carry o) ++ beBytes 2 (s.loopsToReapply o).length
      ++ beBytes 2 (s.stationsToJudge o).length))

def serveSetConstants : Server := fixedForm 11 fun p s => setConstants (.ofPayload p) s

/-- SET_CONSTANTS (R170, R171). -/
def execSetConstants (tag : Byte) (p : List Byte) (s : State) : Host.Outcome State Fault Refusal :=
  .next (s.request tag p serveSetConstants)

end Sys2Proof.Machine
end

