-- ==== Sys2Proof/Machine/HeadRequests.lean ====
section
/-! DEFINITION. The requests on heads (R40, R41). -/

namespace Sys2Proof.Machine

/-- READ_HEAD (R41). -/
def readHead (code : Byte) (s : State) : Answer :=
  match Head.ofCode code with
  | none => refusal .badField
  | some h => done (s.headBytes h)

def serveReadHead : Server := readForm 3 fun p s => readHead (p.getD 0 0) s

/-- READ_HEAD (R41). -/
def execReadHead (tag : Byte) (p : List Byte) (s : State) : Host.Outcome State Fault Refusal :=
  .next (s.request tag p serveReadHead)

/-- The channel as at a start, the head's OPEN occupation failed HEAD_RESET, and its request slot
emptied (R40, R65, R106). -/
def State.resetHead (s : State) (h : Head) : State :=
  ((s.setChannel h .reset).failOccupation h .headReset).withdraw (.head h)

/-- HEAD_RESET (R40): the answer is the engine's state before the reset. -/
def headReset (code : Byte) (s : State) : State × Answer :=
  match Head.ofCode code with
  | none => (s, refusal .badField)
  | some h => (s.resetHead h, done (beBytes 1 (s.engines.get h).code))

def serveHeadReset : Server := fixedForm 1 fun p s => headReset (p.getD 0 0) s

/-- HEAD_RESET (R40). -/
def execHeadReset (tag : Byte) (p : List Byte) (s : State) : Host.Outcome State Fault Refusal :=
  .next (s.request tag p serveHeadReset)

end Sys2Proof.Machine
end

