-- ==== Sys2Proof/Machine/LinkRequests.lean ====
section
/-! DEFINITION. The requests the link serves itself (R191 to R194). -/

namespace Sys2Proof.Machine

def serveReadStatus : Server := readForm 2 fun _ s => done s.statusBytes

/-- READ_STATUS (R193). -/
def execReadStatus (tag : Byte) (p : List Byte) (s : State) : Host.Outcome State Fault Refusal :=
  .next (s.request tag p serveReadStatus)

/-- The notices a 4-byte mask operand names; positions 19 to 31 are ignored (R191, R199). -/
def noticesOf (p : List Byte) : NoticeSet := BitVec.ofNat 19 (fieldNat 0 4 p)

/-- CLEAR_NOTICES (R191): the answer is the notices before the clearing, then after it. -/
def clearNotices (mask : NoticeSet) (s : State) : State × Answer :=
  ({ s with notices := s.notices &&& ~~~mask },
    done (noticeBytes s.notices ++ noticeBytes (s.notices &&& ~~~mask)))

def serveClearNotices : Server := fixedForm 4 fun p s => clearNotices (noticesOf p) s

/-- CLEAR_NOTICES (R191). -/
def execClearNotices (tag : Byte) (p : List Byte) (s : State) : Host.Outcome State Fault Refusal :=
  .next (s.request tag p serveClearNotices)

/-- SET_NOTICE_MASK (R192): the answer is the mask as written, then the notices as they stand. -/
def setNoticeMask (mask : NoticeSet) (s : State) : State × Answer :=
  ({ s with noticeMask := mask }, done (noticeBytes mask ++ noticeBytes s.notices))

def serveSetNoticeMask : Server := fixedForm 4 fun p s => setNoticeMask (noticesOf p) s

/-- SET_NOTICE_MASK (R192). -/
def execSetNoticeMask (tag : Byte) (p : List Byte) (s : State) : Host.Outcome State Fault Refusal :=
  .next (s.request tag p serveSetNoticeMask)

/-- LINK_RESET accepted: response discarded, request given up with its scan, no longer rejected,
link IDLE, nothing answered (R194). -/
def State.resetLink (s : State) : State :=
  { s with link := .idle, scan := none, lastRejected := false }

/-- A good LINK_RESET frame (R178, R184, R194). One that carries a payload is answered BAD_FIELD
by its form, and in WORKING is ignored like any other frame (R185, log 15). -/
def State.linkReset (s : State) (tag : Byte) (p : List Byte) : State :=
  if p.length = 0 then
    if !s.running then s
    else if s.startup then s.taken.respond tag (refusal .busy)
    else s.taken.resetLink
  else s.request tag p fun _ s' => (s', refusal .badField)

/-- LINK_RESET (R194). -/
def execLinkReset (tag : Byte) (p : List Byte) (s : State) : Host.Outcome State Fault Refusal :=
  .next (s.linkReset tag p)

end Sys2Proof.Machine
end

