-- ==== Sys2Proof/Machine/LoopRequests.lean ====
section
/-! DEFINITION. The requests on loops (R125 to R127, R131). -/

namespace Sys2Proof.Machine

/-! ## READ_LOOP -/

/-- READ_LOOP (R131). -/
def readLoop (k : Nat) (s : State) : Answer :=
  match s.checkLoop k with
  | .error c => refusal c
  | .ok l => done (s.loopBytes k l)

def serveReadLoop : Server := readForm 3 fun p s => readLoop (fieldNat 0 1 p) s

/-- READ_LOOP (R131). -/
def execReadLoop (tag : Byte) (p : List Byte) (s : State) : Host.Outcome State Fault Refusal :=
  .next (s.request tag p serveReadLoop)

/-! ## ABANDON_LOOP -/

/-- ABANDON_LOOP (R125, R126): the answer is the loop's state before, then the number of
occupations whose drift term became absent. -/
def abandonLoop (k : Nat) (s : State) : State × Answer :=
  match s.checkLoop k with
  | .error c => (s, refusal c)
  | .ok l =>
    ((s.abandon k).revise s.revisionBusy,
      done (beBytes 1 l.state.code ++ beBytes 2 (s.abandonLoses k)))

def serveAbandonLoop : Server := fixedForm 1 fun p s => abandonLoop (fieldNat 0 1 p) s

/-- ABANDON_LOOP (R125, R126). -/
def execAbandonLoop (tag : Byte) (p : List Byte) (s : State) : Host.Outcome State Fault Refusal :=
  .next (s.request tag p serveAbandonLoop)

/-! ## RELEASE_LOOP -/

/-- RELEASE_LOOP (R127): the answer is the loop's state and rate before release, then the number
of occupations whose terms were frozen (log 14). -/
def releaseLoop (k : Nat) (s : State) : State × Answer :=
  match s.checkLoop k with
  | .error c => (s, refusal c)
  | .ok l =>
    if l.applied then
      (s.release k l,
        done (beBytes 1 l.state.code ++ beSignedBytes 4 (l.rate.getD 0)
          ++ beBytes 2 (s.releaseFreezes l)))
    else (s, refusal .wrongState)

def serveReleaseLoop : Server := fixedForm 1 fun p s => releaseLoop (fieldNat 0 1 p) s

/-- RELEASE_LOOP (R127). -/
def execReleaseLoop (tag : Byte) (p : List Byte) (s : State) : Host.Outcome State Fault Refusal :=
  .next (s.request tag p serveReleaseLoop)

end Sys2Proof.Machine
end

