-- ==== Sys2Proof/Machine/OccupationRequests.lean ====
section
/-! DEFINITION. The requests on occupations (R47 to R52, R60, R66 to R69). -/

namespace Sys2Proof.Machine

/-! ## OPEN_OCCUPATION -/

/-- OPEN_OCCUPATION: head 1, slot 2, requested duration 2 (R199). -/
structure OpenOperands where
  head : Byte
  slot : Nat
  duration : Nat
  deriving DecidableEq, Repr

def OpenOperands.ofPayload (p : List Byte) : OpenOperands :=
  { head := p.getD 0 0, slot := fieldNat 1 2 p, duration := fieldNat 3 2 p }

def OpenOperands.toPayload (o : OpenOperands) : List Byte :=
  [o.head] ++ beBytes 2 o.slot ++ beBytes 2 o.duration

/-- What an accepted opening has found: head, station, survey time, rate class, record number. -/
structure Opening where
  head : Head
  slot : Nat
  time : TimeMs
  rate : RateClass
  number : Nat
  requested : Nat
  deriving DecidableEq, Repr

/-- The head's rate class, when the head is LIVE or CLAMPED (R31, R48, R49 part 5). -/
def Channel.upRate (c : Channel) : Option RateClass :=
  match c.state with
  | .live | .clamped => c.rate
  | _ => none

/-- The checks of OPEN_OCCUPATION, in order (R49). -/
def State.checkOpening (s : State) (o : OpenOperands) : Except ResponseCode Opening :=
  match Head.ofCode o.head with
  | none => .error .badField
  | some h =>
    if s.partition.slots ≤ o.slot then .error .badField
    else if s.engines.get h ≠ .idle then .error .busy
    else match Table.get s.stations o.slot with
      | none => .error .notFound
      | some st =>
        match s.now with
        | none => .error .clockUnset
        | some t =>
          match (s.channels.get h).upRate with
          | none => .error .headDown
          | some r =>
            match Table.firstFree s.occupations s.partition.records with
            | none => .error .tableFull
            | some n =>
              if Config.chainCapacity ≤ st.chain.length then .error .chainFull
              else .ok ⟨h, o.slot, t, r, n, o.duration⟩

/-- The head's STAGED set, when it is to be applied: the head has no OPEN loop (R50 part 1, R166). -/
def State.applicable (s : State) (h : Head) : Option CalibrationSet :=
  match s.staged.get h, s.openLoop h with
  | some set, none => some set
  | _, _ => none

/-- The STAGED set becomes ACTIVE, if it is to be (R166, R167). -/
def State.applyStaged (s : State) (h : Head) : State :=
  match s.applicable h with
  | some set =>
    { s with
      active := s.active.set h set
      staged := s.staged.set h none
      calGen := s.calGen.set h (s.calGen.get h + 1) }.setNotice .calibrationApplied
  | none => s

/-- A record just opened (R50 part 3). -/
def Occupation.fresh (q : Opening) (calGen : Gen) : Occupation :=
  { station := q.slot, head := q.head, state := .opened, included := false, openedAt := q.time
    rate := q.rate, granted := grantedDuration q.rate q.requested
    target := grantedDuration q.rate q.requested * q.rate.perSecond, calGen := calGen
    counts := ⟨0, 0, 0, 0, 0, 0, 0, 0⟩, steps := [], grade := none, midTime := none
    readingMean := none, tideMean := none, tideStale := false, drift := none
    driftFrozen := false, driftLoop := none, anchorsLoop := none, value := none }

/-- The working state of an engine at an opening (R43). -/
def Session.fresh (q : Opening) : Session :=
  { occupation := q.number, station := q.slot, rate := q.rate
    granted := grantedDuration q.rate q.requested
    target := grantedDuration q.rate q.requested * q.rate.perSecond }

/-- An accepted OPEN_OCCUPATION, its parts in order (R50), the new head timeout judged at once
(R33). -/
def State.openOccupation (s : State) (q : Opening) : State :=
  let s1 := s.applyStaged q.head
  let s2 := { s1 with
    occupations := Table.put s1.occupations q.number
      (Occupation.fresh q (s1.calGen.get q.head)) }.modifyStation q.slot
        fun st => { st with chain := st.chain ++ [q.number] }
  let s3 := { s2 with pulse := { s2.pulse with pendingSet := none } }
  let deadline := q.time + 1000 * (s1.activeSet q.head).settlingTimeout
  (s3.setEngine q.head (.settling (.fresh q) 0 deadline)).loseHead q.head

/-- OPEN_OCCUPATION (R49, R50). -/
def openOccupation (o : OpenOperands) (s : State) : State × Answer :=
  match s.checkOpening o with
  | .error c => (s, refusal c)
  | .ok q =>
    (s.openOccupation q,
      done (beBytes 2 q.number ++ beBytes 2 (Session.fresh q).granted
        ++ beBytes 2 (Session.fresh q).target
        ++ beBytes 2 ((s.applyStaged q.head).calGen.get q.head).toNat
        ++ yesNo (s.applicable q.head).isSome))

def serveOpenOccupation : Server := fixedForm 5 fun p s => openOccupation (.ofPayload p) s

/-- OPEN_OCCUPATION (R48 to R50, R166). -/
def execOpenOccupation (tag : Byte) (p : List Byte) (s : State) : Host.Outcome State Fault Refusal :=
  .next (s.request tag p serveOpenOccupation)

/-! ## Requests that name a head -/

/-- A request whose one operand is a head number: another number is BAD_FIELD (R47). -/
def onHead (serve : Head → State → State × Answer) : Server :=
  fixedForm 1 fun p s =>
    match Head.ofCode (p.getD 0 0) with
    | none => (s, refusal .badField)
    | some h => serve h s

/-- FORCE_INTEGRATE (R52): integration starts at the survey time of the request. -/
def forceIntegrate (h : Head) (s : State) : State × Answer :=
  match s.engines.get h with
  | .settling _ counter _ => (s.enterIntegrating h (s.now.getD 0), done (beBytes 2 counter))
  | _ => (s, refusal .wrongState)

def serveForceIntegrate : Server := onHead forceIntegrate

/-- FORCE_INTEGRATE (R52). -/
def execForceIntegrate (tag : Byte) (p : List Byte) (s : State) : Host.Outcome State Fault Refusal :=
  .next (s.request tag p serveForceIntegrate)

/-- Integration ended by STOP goes to REDUCING: 30 or more accepted, and not NOISY (R60, R62). -/
def State.stopReduces (s : State) (w : Session) : Bool :=
  decide (Config.fewestForStop ≤ (s.countsOf w.occupation).accepted)
    && (judge .stop (s.countsOf w.occupation)).isSome

/-- STOP_OCCUPATION (R60): the answer is the accepted count, then 1 for REDUCING, 0 for failed
(log 14). -/
def stopOccupation (h : Head) (s : State) : State × Answer :=
  match s.engines.get h with
  | .integrating w _ =>
    (s.stopIntegration h,
      done (beBytes 2 (s.countsOf w.occupation).accepted ++ yesNo (s.stopReduces w)))
  | _ => (s, refusal .wrongState)

def serveStopOccupation : Server := onHead stopOccupation

/-- STOP_OCCUPATION (R60). -/
def execStopOccupation (tag : Byte) (p : List Byte) (s : State) : Host.Outcome State Fault Refusal :=
  .next (s.request tag p serveStopOccupation)

/-- CANCEL_OCCUPATION (R66). -/
def cancelOccupation (h : Head) (s : State) : State × Answer :=
  match (s.engines.get h).session? with
  | some w =>
    (s.failOccupation h .cancelled,
      done (beBytes 2 w.occupation ++ beBytes 1 (s.engines.get h).code))
  | none => (s, refusal .wrongState)

def serveCancelOccupation : Server := onHead cancelOccupation

/-- CANCEL_OCCUPATION (R66). -/
def execCancelOccupation (tag : Byte) (p : List Byte) (s : State) : Host.Outcome State Fault Refusal :=
  .next (s.request tag p serveCancelOccupation)

/-! ## Requests that name an occupation -/

/-- READ_OCCUPATION (R47, R69). -/
def readOccupation (n : Nat) (s : State) : Answer :=
  match s.checkOccupation n with
  | .error c => refusal c
  | .ok o => done (occupationBytes n o (s.engines.get o.head))

def serveReadOccupation : Server := readForm 4 fun p s => readOccupation (fieldNat 0 2 p) s

/-- READ_OCCUPATION (R69). -/
def execReadOccupation (tag : Byte) (p : List Byte) (s : State) : Host.Outcome State Fault Refusal :=
  .next (s.request tag p serveReadOccupation)

/-- The included field is set and the station queued, whether or not the field changed (R67). -/
def State.setIncluded (s : State) (n : Nat) (o : Occupation) (included : Bool) : State :=
  ((s.modifyOccupation n fun o => { o with included := included }).queueItem
    ⟨.stationValue, o.station⟩).revise s.revisionBusy

/-- EXCLUDE_OCCUPATION and INCLUDE_OCCUPATION (R47, R67). -/
def includeRequest (included : Bool) (n : Nat) (s : State) : State × Answer :=
  match s.checkOccupation n with
  | .error c => (s, refusal c)
  | .ok o =>
    if o.state = .closed then
      (s.setIncluded n o included, done (yesNo o.included ++ yesNo included))
    else (s, refusal .wrongState)

def serveExcludeOccupation : Server := fixedForm 2 fun p s => includeRequest false (fieldNat 0 2 p) s

/-- EXCLUDE_OCCUPATION (R67). -/
def execExcludeOccupation (tag : Byte) (p : List Byte) (s : State) : Host.Outcome State Fault Refusal :=
  .next (s.request tag p serveExcludeOccupation)

def serveIncludeOccupation : Server := fixedForm 2 fun p s => includeRequest true (fieldNat 0 2 p) s

/-- INCLUDE_OCCUPATION (R67). -/
def execIncludeOccupation (tag : Byte) (p : List Byte) (s : State) : Host.Outcome State Fault Refusal :=
  .next (s.request tag p serveIncludeOccupation)

/-- The items of an occupation leave the queue, and one in flight is abandoned (R68 part 2, R135). -/
def State.dropRedo (s : State) (n : Nat) : State :=
  let s' := s.removeItems fun i => i == ⟨.tideRedo, n⟩
  if s.redoing = some n then s'.dropInFlight else s'

/-- The record is taken out of its chain and becomes FREE (R68 parts 3 and 4). -/
def State.freeOccupation (s : State) (n slot : Nat) : State :=
  { s with occupations := Table.del s.occupations n }.modifyStation slot
    fun st => { st with chain := st.chain.filter (· != n) }

/-- An accepted deletion, its parts in order (R68, R129). -/
def State.delete (s : State) (n : Nat) (o : Occupation) : State :=
  if o.state = .closed then
    (((((s.resolveRoles n o).dropRedo n).freeOccupation n o.station).queueItem
      ⟨.stationValue, o.station⟩).revise s.revisionBusy)
  else ((s.dropRedo n).freeOccupation n o.station).revise s.revisionBusy

/-- How many loops a deletion abandons (R68, R129). -/
def State.deleteAbandons (s : State) (n : Nat) (o : Occupation) : Nat :=
  if o.state = .closed then (s.loopsAbandonedWith n o).length else 0

/-- DELETE_OCCUPATION (R47, R68). -/
def deleteOccupation (n : Nat) (s : State) : State × Answer :=
  match s.checkOccupation n with
  | .error c => (s, refusal c)
  | .ok o =>
    if o.state = .opened then (s, refusal .wrongState)
    else (s.delete n o, done (beBytes 2 (s.deleteAbandons n o)))

def serveDeleteOccupation : Server := fixedForm 2 fun p s => deleteOccupation (fieldNat 0 2 p) s

/-- DELETE_OCCUPATION (R68). -/
def execDeleteOccupation (tag : Byte) (p : List Byte) (s : State) : Host.Outcome State Fault Refusal :=
  .next (s.request tag p serveDeleteOccupation)

end Sys2Proof.Machine
end

