-- ==== Sys2Proof/Machine/StationRequests.lean ====
section
/-! DEFINITION. The requests of the Station Store on stations (R3, R4, R12 to R24). -/

namespace Sys2Proof.Machine

/-! ## DECLARE_STATION -/

/-- A station just declared (R14). -/
def Station.fresh (name : Name) (role : Role) (latitude longitude : Int) : Station :=
  { state := .declared, name := name, role := role, latitude := latitude, longitude := longitude
    coordGen := 0, chain := [], adopted := none, spread := none, weightTotal := 0
    discordant := false, valueStale := false }

/-- A non-FREE station other than `slot` holds the name (R8, R15); `none` excepts no slot. -/
def State.nameHeld (s : State) (n : Name) (except : Option Nat) : Bool :=
  s.nameIndex.any fun e => e.2 == n && some e.1 != except

/-- DECLARE_STATION (R13, R14). -/
def declareStation (o : DeclareOperands) (s : State) : State × Answer :=
  match legalName o.name, Role.ofCode o.role, normLatitude o.latitude, normLongitude o.longitude with
  | some n, some r, some la, some lo =>
    if s.nameHeld n none then (s, refusal .nameTaken)
    else match Table.firstFree s.stations s.partition.slots with
      | none => (s, refusal .tableFull)
      | some k =>
        ({ s with stations := Table.put s.stations k (Station.fresh n r la lo)
                  nameIndex := Table.put s.nameIndex k n },
          done (beBytes 2 k ++ nameBytes n ++ beSignedBytes 4 lo))
  | _, _, _, _ => (s, refusal .badField)

def serveDeclareStation : Server := fixedForm 21 fun p s => declareStation (.ofPayload p) s

/-- DECLARE_STATION (R13, R14). -/
def execDeclareStation (tag : Byte) (p : List Byte) (s : State) : Host.Outcome State Fault Refusal :=
  .next (s.request tag p serveDeclareStation)

/-! ## EDIT_STATION -/

/-- The slot is the base station of a loop entry (R15 part 4). -/
def State.basesLoop (s : State) (slot : Nat) : Bool := s.loops.any fun e => e.2.base == slot

/-- What an accepted EDIT_STATION carries, checked (R15 part 2). -/
structure StationEdit where
  name : Option Name
  role : Option Role
  latitude : Option Int
  longitude : Option Int
  deriving DecidableEq, Repr

/-- Each field carried is legal, or none (R15 part 2). -/
def EditOperands.check (o : EditOperands) : Option StationEdit :=
  match checkCarried legalName o.name, checkCarried Role.ofCode o.role,
    checkCarried normLatitude o.latitude, checkCarried normLongitude o.longitude with
  | some n, some r, some la, some lo => some ⟨n, r, la, lo⟩
  | _, _, _, _ => none

/-- The stored latitude or longitude changes (R17). -/
def Station.movedBy (st : Station) (e : StationEdit) : Bool :=
  e.latitude.getD st.latitude != st.latitude || e.longitude.getD st.longitude != st.longitude

/-- The record after an accepted edit (R10, R16). -/
def Station.edited (st : Station) (e : StationEdit) : Station :=
  { st with
    name := e.name.getD st.name, role := e.role.getD st.role
    latitude := e.latitude.getD st.latitude, longitude := e.longitude.getD st.longitude
    coordGen := if st.movedBy e then st.coordGen + 1 else st.coordGen }

/-- The CLOSED occupations of a chain, in chain order (R17). -/
def State.closedOf (s : State) (chain : List Nat) : List Nat :=
  chain.filter fun n => ((Table.get s.occupations n).map fun o => o.state == .closed).getD false

/-- An accepted EDIT_STATION, with the consequences of a change of coordinates (R16, R17). -/
def State.applyEdit (s : State) (slot : Nat) (st : Station) (e : StationEdit) : State :=
  let s1 := { s with stations := Table.put s.stations slot (st.edited e)
                     nameIndex := Table.put s.nameIndex slot (st.edited e).name }
  if st.movedBy e then (s1.markTideStale (s.closedOf st.chain)).revise s.revisionBusy else s1

/-- The edit carries the role FIELD for a BASE station that is the base of a loop (R15 part 4). -/
def State.editInUse (s : State) (slot : Nat) (st : Station) (e : StationEdit) : Bool :=
  e.role == some .field && st.role == .base && s.basesLoop slot

/-- The edit carries a name another station holds (R15 part 3). -/
def State.editNameTaken (s : State) (slot : Nat) (e : StationEdit) : Bool :=
  (e.name.map fun n => s.nameHeld n (some slot)).getD false

/-- EDIT_STATION (R15 to R17). -/
def editStation (o : EditOperands) (s : State) : State × Answer :=
  match s.checkSlot o.slot with
  | .error c => (s, refusal c)
  | .ok st =>
    match o.check with
    | none => (s, refusal .badField)
    | some e =>
      if s.editNameTaken o.slot e then (s, refusal .nameTaken)
      else if s.editInUse o.slot st e then (s, refusal .inUse)
      else (s.applyEdit o.slot st e, done (stationBytes o.slot (st.edited e)))

def serveEditStation : Server := fixedForm 24 fun p s => editStation (.ofPayload p) s

/-- EDIT_STATION (R15 to R17). -/
def execEditStation (tag : Byte) (p : List Byte) (s : State) : Host.Outcome State Fault Refusal :=
  .next (s.request tag p serveEditStation)

/-! ## READ_STATION, FIND_NAME -/

/-- READ_STATION (R12, R18). -/
def readStation (slot : Nat) (s : State) : Answer :=
  match s.checkSlot slot with
  | .error c => refusal c
  | .ok st => done (stationBytes slot st)

def serveReadStation : Server := readForm 4 fun p s => readStation (fieldNat 0 2 p) s

/-- READ_STATION (R12, R18). -/
def execReadStation (tag : Byte) (p : List Byte) (s : State) : Host.Outcome State Fault Refusal :=
  .next (s.request tag p serveReadStation)

/-- The slot a name is mapped to (R8, R19). -/
def State.slotNamed (s : State) (n : Name) : Option Nat :=
  (s.nameIndex.find? fun e => e.2 == n).map (·.1)

/-- FIND_NAME (R19). -/
def findName (raw : List Byte) (s : State) : Answer :=
  match legalName raw with
  | none => refusal .badField
  | some n =>
    match s.slotNamed n with
    | none => refusal .notFound
    | some k =>
      match Table.get s.stations k with
      | none => refusal .notFound
      | some st => done (beBytes 2 k ++ stationBytes k st)

def serveFindName : Server := readForm 14 fun p s => findName (nameField 0 p) s

/-- FIND_NAME (R19). -/
def execFindName (tag : Byte) (p : List Byte) (s : State) : Host.Outcome State Fault Refusal :=
  .next (s.request tag p serveFindName)

/-! ## FIND_NEAR -/

/-- A query checked and prepared, its radius clamped (R20). -/
def prepareNear (latitude longitude : Int) (radius : Nat) : Option NearQuery :=
  match normLatitude latitude, normLongitude longitude with
  | some la, some lo =>
    some { latitude := la, longitude := lo, radius := clampNat 1 Config.maxRadius radius
           cosine := cosQ15 (binaryAngle la) }
  | _, _ => none

/-- The query of a FIND_NEAR payload: latitude 4, longitude 4, radius 4, maximum length 2 (R199). -/
def nearOfPayload (p : List Byte) : Option NearQuery :=
  if p.length = 14 then prepareNear (fieldInt 0 4 p) (fieldInt 4 4 p) (fieldNat 8 4 p) else none

/-- FIND_NEAR's request code (R199). -/
def findNearCode : Byte := 5

/-- A FIND_NEAR is taken: the scan starts and the link stays WORKING, or it is answered
BAD_FIELD (R20, R185). -/
def State.takeFindNear (s : State) (tag : Byte) (p : List Byte) : State :=
  match nearOfPayload p with
  | none => s.respond tag (refusal .badField)
  | some q => { s with link := .working ⟨findNearCode, tag, p⟩, scan := some q }

def State.requestFindNear (s : State) (tag : Byte) (p : List Byte) : State :=
  s.receiveFrame tag p fun s' => s'.takeFindNear tag p

/-- FIND_NEAR (R20). -/
def execFindNear (tag : Byte) (p : List Byte) (s : State) : Host.Outcome State Fault Refusal :=
  .next (s.requestFindNear tag p)

/-- A longitude difference reduced by one turn at most (R21 part 2). -/
def reduceLongitude (d : Int) : Int :=
  if d < -180000000 then d + 360000000 else if 180000000 ≤ d then d - 360000000 else d

/-- The squared distance measure (R21). -/
def nearMeasure (q : NearQuery) (st : Station) : Nat :=
  let dLat := st.latitude - q.latitude
  let dx := roundDiv (reduceLongitude (st.longitude - q.longitude) * q.cosine) 32768
  dx.natAbs * dx.natAbs + dLat.natAbs * dLat.natAbs

/-- A taken station put into the result list: by measure, then by slot, the slots rising (R22). -/
def insertNear (slot d : Nat) : List (Nat × Nat) → List (Nat × Nat)
  | [] => [(slot, d)]
  | e :: es => if d < e.2 then (slot, d) :: e :: es else e :: insertNear slot d es

/-- What the scan keeps: the matched count and the result list (R22). -/
structure NearResult where
  matched : Nat
  nearest : List (Nat × Nat)
  deriving DecidableEq, Repr

/-- The scan visits one station (R21, R22). -/
def NearResult.visit (q : NearQuery) (r : NearResult) (e : Nat × Station) : NearResult :=
  let d := nearMeasure q e.2
  if d ≤ q.radius * q.radius then
    { matched := r.matched + 1, nearest := (insertNear e.1 d r.nearest).take Config.nearestListed }
  else r

/-- The scan of the Station Table (R22). -/
def scanStations (q : NearQuery) (t : Table Station) : NearResult :=
  t.foldl (NearResult.visit q) ⟨0, []⟩

/-- The FIND_NEAR answer (R22, R199). -/
def nearAnswer (q : NearQuery) (r : NearResult) : Answer :=
  done (beBytes 4 q.radius ++ beBytes 2 r.matched ++ beBytes 1 r.nearest.length
    ++ r.nearest.flatMap fun e => beBytes 2 e.1 ++ beBytes 8 e.2)

/-- The scan ends and its response is built (R22, R186, R188). The table is judged as it stands at
the end: no request that writes it is served while the link is WORKING (R184, log 8). -/
def State.endScan (s : State) : State :=
  match s.link, s.scan with
  | .working r, some q =>
    { s.respond r.tag (cut (maximumLength r.payload) (nearAnswer q (scanStations q s.stations))) with
      scan := none }
  | _, _ => s

/-- FIND_NEAR_SCAN_END (R22). -/
def execFindNearScanEnd (s : State) : Host.Outcome State Fault Refusal :=
  .next (if s.running then s.endScan else s)

/-! ## RETIRE_STATION -/

/-- The items whose target is the station or one of its occupations (R24 part 3). -/
def targetsStation (slot : Nat) (chain : List Nat) (i : RevItem) : Bool :=
  match i.kind with
  | .stationValue => i.target == slot
  | .tideRedo => decide (i.target ∈ chain)
  | .driftApply => false

/-- An occupation leaves the loop it is a member of, if it is one (R24 part 2). -/
def State.leaveLoop (s : State) (n : Nat) : State :=
  match (Table.get s.occupations n).bind (s.memberLoop n) with
  | some k => s.removeMember k n
  | none => s

/-- The loops based at a station, in ascending order (R24 part 1; log 16). -/
def State.loopsBasedAt (s : State) (slot : Nat) : List Nat :=
  Table.keysWhere s.loops fun l => l.base == slot

/-- A retirement, its parts in order (R24). -/
def State.retire (s : State) (slot : Nat) (chain : List Nat) : State :=
  let s1 := s.abandonAll (s.loopsBasedAt slot)
  let s2 := chain.foldl State.leaveLoop s1
  let s3 := s2.removeItems (targetsStation slot chain)
  let s4 := if (s3.redoing.map fun o => decide (o ∈ chain)).getD false then s3.dropInFlight else s3
  let s5 := { s4 with
    occupations := s4.occupations.filter fun e => !decide (e.1 ∈ chain)
    nameIndex := Table.del s4.nameIndex slot
    stations := Table.del s4.stations slot }
  s5.revise s.revisionBusy

/-- Some occupation of a chain is OPEN (R23). -/
def State.chainOpen (s : State) (chain : List Nat) : Bool :=
  chain.any fun n => ((Table.get s.occupations n).map fun o => o.state == .opened).getD false

/-- RETIRE_STATION (R23, R24). -/
def retireStation (slot : Nat) (s : State) : State × Answer :=
  match s.checkSlot slot with
  | .error c => (s, refusal c)
  | .ok st =>
    if s.chainOpen st.chain then (s, refusal .busy)
    else (s.retire slot st.chain,
      done (beBytes 2 st.chain.length ++ beBytes 2 (s.loopsBasedAt slot).length))

def serveRetireStation : Server := fixedForm 2 fun p s => retireStation (fieldNat 0 2 p) s

/-- RETIRE_STATION (R23, R24). -/
def execRetireStation (tag : Byte) (p : List Byte) (s : State) : Host.Outcome State Fault Refusal :=
  .next (s.request tag p serveRetireStation)

/-! ## CLEAR_SURVEY -/

/-- The survey is emptied in one step (R4). -/
def State.clear (s : State) (part : Partition) : State :=
  let s1 := { s.dropInFlight with
    partition := part, stations := [], nameIndex := [], occupations := [], loops := []
    revQueue := [] }
  if s.revisionBusy then s1.setNotice .revisionIdle else s1

/-- CLEAR_SURVEY (R3, R4). -/
def clearSurvey (code : Byte) (s : State) : State × Answer :=
  match Partition.ofCode code with
  | none => (s, refusal .badField)
  | some part =>
    if s.anyOpen then (s, refusal .busy)
    else (s.clear part, done (beBytes 1 part.code))

def serveClearSurvey : Server := fixedForm 1 fun p s => clearSurvey (p.getD 0 0) s

/-- CLEAR_SURVEY (R3, R4). -/
def execClearSurvey (tag : Byte) (p : List Byte) (s : State) : Host.Outcome State Fault Refusal :=
  .next (s.request tag p serveClearSurvey)

end Sys2Proof.Machine
end

