-- ==== Sys2Proof/Machine/Transfers.lean ====
section
/-! DEFINITION. Transfers on the console link as they cross its pins: which request a frame
carries, bad frames, fetches and status transfers (R181 to R187, R198, R199). -/

namespace Sys2Proof.Machine

/-- What a request code outside the catalogue is answered (R185, R199). -/
def serveUnknown : Server := fun _ s => (s, refusal .unknownRequest)

/-- A good request frame acts by its request code (R184, R185, R199). -/
def State.serveFrame (s : State) (r : Request) : State :=
  match r.code.toNat with
  | 1 => s.request r.tag r.payload serveDeclareStation
  | 2 => s.request r.tag r.payload serveEditStation
  | 3 => s.request r.tag r.payload serveReadStation
  | 4 => s.request r.tag r.payload serveFindName
  | 5 => s.requestFindNear r.tag r.payload
  | 6 => s.request r.tag r.payload serveRetireStation
  | 7 => s.request r.tag r.payload serveClearSurvey
  | 8 => s.request r.tag r.payload serveOpenOccupation
  | 9 => s.request r.tag r.payload serveForceIntegrate
  | 10 => s.request r.tag r.payload serveStopOccupation
  | 11 => s.request r.tag r.payload serveCancelOccupation
  | 12 => s.request r.tag r.payload serveReadOccupation
  | 13 => s.request r.tag r.payload serveExcludeOccupation
  | 14 => s.request r.tag r.payload serveIncludeOccupation
  | 15 => s.request r.tag r.payload serveDeleteOccupation
  | 16 => s.request r.tag r.payload serveReadLoop
  | 17 => s.request r.tag r.payload serveAbandonLoop
  | 18 => s.request r.tag r.payload serveReleaseLoop
  | 19 => s.request r.tag r.payload serveReadHead
  | 20 => s.request r.tag r.payload serveHeadReset
  | 21 => s.request r.tag r.payload serveStageCalibration
  | 22 => s.request r.tag r.payload serveReadCalibration
  | 23 => s.request r.tag r.payload serveWriteConstituent
  | 24 => s.request r.tag r.payload serveReadConstituent
  | 25 => s.request r.tag r.payload serveSetConstants
  | 26 => s.request r.tag r.payload serveSetTime
  | 27 => s.request r.tag r.payload serveSyncToPulse
  | 28 => s.request r.tag r.payload serveReadTime
  | 29 => s.request r.tag r.payload serveReadStatus
  | 30 => s.request r.tag r.payload serveClearNotices
  | 31 => s.request r.tag r.payload serveSetNoticeMask
  | 32 => s.linkReset r.tag r.payload
  | _ => s.request r.tag r.payload serveUnknown

/-- UNKNOWN_REQUEST: a good frame with a code outside the catalogue (R185). A code inside it is
served as that request (log 6). -/
def execUnknownRequest (code tag : Byte) (p : List Byte) (s : State) :
    Host.Outcome State Fault Refusal :=
  .next (s.serveFrame ⟨code, tag, p⟩)

/-- STARTUP_BUSY_ANSWER: a good frame while the backup-lost start-up runs (R178). With no start-up
running it is served as the request it is (log 6). -/
def execStartupBusyAnswer (code tag : Byte) (p : List Byte) (s : State) :
    Host.Outcome State Fault Refusal :=
  .next (s.serveFrame ⟨code, tag, p⟩)

/-- The request a received frame carries, or none when it is bad: more than 512 payload bytes,
a size other than the payload length gives, or a wrong CRC-16 (R183, R198). -/
def judgeFrame (mosi : List Byte) : Option Request :=
  let n := fieldNat 3 2 mosi
  if mosi.length < 5 ∨ Config.maxPayload < n ∨ mosi.length ≠ 7 + n then none
  else if (crc16 (fieldBytes 1 (4 + n) mosi)).toNat = fieldNat (5 + n) 2 mosi then
    some ⟨mosi.getD 1 0, mosi.getD 2 0, fieldBytes 5 n mosi⟩
  else none

/-- A request transfer, its first byte the marker, judged when CS rises (R181, R183). -/
def State.requestTransfer (s : State) (mosi : List Byte) : State :=
  match judgeFrame mosi with
  | some r => s.serveFrame r
  | none => s.rejected

/-- What stands after the status byte in a fetch: the waiting frame, if there is one (R187). -/
def LinkState.waiting : LinkState → List Byte
  | .answered frame => frame
  | _ => []

/-- The link after a fetch of `n` bytes past the status byte: IDLE when the whole waiting frame was
shifted out (R187). -/
def LinkState.fetched (l : LinkState) (n : Nat) : LinkState :=
  match l with
  | .answered frame => if frame.length ≤ n then .idle else .answered frame
  | other => other

/-- `n` bytes shifted out: the given ones, then fill (R181, R187). -/
def shiftedOut (n : Nat) (bytes : List Byte) : List Byte :=
  (bytes ++ List.replicate n Config.fillByte).take n

/-- A fetch transfer of `n` whole bytes after the status byte (R187). -/
def State.fetch (s : State) (n : Nat) : State :=
  { s with
    miso := s.statusByte :: shiftedOut n s.link.waiting
    link := s.link.fetched n }

/-- A transfer of these whole bytes: the first decides what it is, and one that is neither marker nor
fetch byte makes a status transfer, which shifts out the status byte and fill (R181). A transfer cut
off before its first whole byte shifts out none. -/
def State.transfer (s : State) (mosi : List Byte) : State :=
  match mosi with
  | [] => { s with miso := [] }
  | b :: rest =>
    if b = Config.requestMarker then s.requestTransfer mosi
    else if b = Config.fetchByte then s.fetch rest.length
    else { s with miso := s.statusByte :: shiftedOut rest.length [] }

/-- BAD_REQUEST_FRAME: the whole bytes of the transfer (R181, R183). As the row names it they begin
with the marker and make a bad frame; other bytes do what they do on the wire (log 6). -/
def execBadRequestFrame (mosi : List Byte) (s : State) : Host.Outcome State Fault Refusal :=
  .next (s.whenRunning fun s => s.transfer mosi)

/-- FETCH_TRANSFER: `clocked` whole bytes are shifted out after the status byte (R187). -/
def execFetchTransfer (clocked : Nat) (s : State) : Host.Outcome State Fault Refusal :=
  .next (s.whenRunning fun s => s.fetch clocked)

/-- STATUS_TRANSFER: the whole bytes of the transfer (R181, R182). As the row names it the first is
neither marker nor fetch byte; other bytes do what they do on the wire (log 6). -/
def execStatusTransfer (mosi : List Byte) (s : State) : Host.Outcome State Fault Refusal :=
  .next (s.whenRunning fun s => s.transfer mosi)

end Sys2Proof.Machine
end

