-- ==== Sys2Proof/Machine/Dispatch.lean ====
section
/-! DEFINITION. What each command does: one arm per command. -/

namespace Sys2Proof.Machine

def exec (i : Instr) (s : State) : Host.Outcome State Fault Refusal :=
  match i with
  -- requests of the Station Store
  | .declareStation tag p => Sys2Proof.Machine.execDeclareStation tag p s
  | .editStation tag p => Sys2Proof.Machine.execEditStation tag p s
  | .readStation tag p => Sys2Proof.Machine.execReadStation tag p s
  | .findName tag p => Sys2Proof.Machine.execFindName tag p s
  | .findNear tag p => Sys2Proof.Machine.execFindNear tag p s
  | .findNearScanEnd => Sys2Proof.Machine.execFindNearScanEnd s
  | .retireStation tag p => Sys2Proof.Machine.execRetireStation tag p s
  | .clearSurvey tag p => Sys2Proof.Machine.execClearSurvey tag p s
  -- requests on occupations
  | .openOccupation tag p => Sys2Proof.Machine.execOpenOccupation tag p s
  | .forceIntegrate tag p => Sys2Proof.Machine.execForceIntegrate tag p s
  | .stopOccupation tag p => Sys2Proof.Machine.execStopOccupation tag p s
  | .cancelOccupation tag p => Sys2Proof.Machine.execCancelOccupation tag p s
  | .readOccupation tag p => Sys2Proof.Machine.execReadOccupation tag p s
  | .excludeOccupation tag p => Sys2Proof.Machine.execExcludeOccupation tag p s
  | .includeOccupation tag p => Sys2Proof.Machine.execIncludeOccupation tag p s
  | .deleteOccupation tag p => Sys2Proof.Machine.execDeleteOccupation tag p s
  -- requests on loops
  | .readLoop tag p => Sys2Proof.Machine.execReadLoop tag p s
  | .abandonLoop tag p => Sys2Proof.Machine.execAbandonLoop tag p s
  | .releaseLoop tag p => Sys2Proof.Machine.execReleaseLoop tag p s
  -- requests on heads
  | .readHead tag p => Sys2Proof.Machine.execReadHead tag p s
  | .headReset tag p => Sys2Proof.Machine.execHeadReset tag p s
  -- requests on coefficients
  | .stageCalibration tag p => Sys2Proof.Machine.execStageCalibration tag p s
  | .readCalibration tag p => Sys2Proof.Machine.execReadCalibration tag p s
  | .writeConstituent tag p => Sys2Proof.Machine.execWriteConstituent tag p s
  | .readConstituent tag p => Sys2Proof.Machine.execReadConstituent tag p s
  | .setConstants tag p => Sys2Proof.Machine.execSetConstants tag p s
  -- requests on time
  | .setTime tag p => Sys2Proof.Machine.execSetTime tag p s
  | .syncToPulse tag p => Sys2Proof.Machine.execSyncToPulse tag p s
  | .readTime tag p => Sys2Proof.Machine.execReadTime tag p s
  -- requests the link serves
  | .readStatus tag p => Sys2Proof.Machine.execReadStatus tag p s
  | .clearNotices tag p => Sys2Proof.Machine.execClearNotices tag p s
  | .setNoticeMask tag p => Sys2Proof.Machine.execSetNoticeMask tag p s
  | .linkReset tag p => Sys2Proof.Machine.execLinkReset tag p s
  | .unknownRequest code tag p => Sys2Proof.Machine.execUnknownRequest code tag p s
  | .startupBusyAnswer code tag p => Sys2Proof.Machine.execStartupBusyAnswer code tag p s
  -- transfers
  | .badRequestFrame mosi => Sys2Proof.Machine.execBadRequestFrame mosi s
  | .fetchTransfer n => Sys2Proof.Machine.execFetchTransfer n s
  | .statusTransfer mosi => Sys2Proof.Machine.execStatusTransfer mosi s
  -- head lines
  | .headFrame h b => Sys2Proof.Machine.execHeadFrame h b s
  | .headLineCharacter h b => Sys2Proof.Machine.execHeadLineCharacter h b s
  | .characterFramingError h => Sys2Proof.Machine.execCharacterFramingError h s
  | .frameBrokenOff h => Sys2Proof.Machine.execFrameBrokenOff h s
  | .headTimeout h => Sys2Proof.Machine.execHeadTimeout h s
  -- engines
  | .settleCountReached h => Sys2Proof.Machine.execSettleCountReached h s
  | .targetReached h => Sys2Proof.Machine.execTargetReached h s
  | .settlingDeadline h => Sys2Proof.Machine.execSettlingDeadline h s
  | .capDeadline h => Sys2Proof.Machine.execCapDeadline h s
  -- ends of the part's own work
  | .tideEvaluationComplete => Sys2Proof.Machine.execTideEvaluationComplete s
  | .driftApplyComplete => Sys2Proof.Machine.execDriftApplyComplete s
  -- time
  | .timePulse => Sys2Proof.Machine.execTimePulse s
  | .pulseLoss => Sys2Proof.Machine.execPulseLoss s
  | .clockHoldAtMax => Sys2Proof.Machine.execClockHoldAtMax s
  -- supply and reset
  | .partStart => Sys2Proof.Machine.execPartStart s
  | .backupLostStartup => Sys2Proof.Machine.execBackupLostStartup s
  | .resetNAssert => Sys2Proof.Machine.execResetNAssert s
  | .vddFail => Sys2Proof.Machine.execVddFail s
  | .backupDomainLoss => Sys2Proof.Machine.execBackupDomainLoss s

end Sys2Proof.Machine
end

