-- ==== Sys2Proof/Machine/Step.lean ====
section
/-! DEFINITION. One step of the part: its front command, or one millisecond (log 2). -/

namespace Sys2Proof.Machine

/-- The state with the rest of its queue. -/
def State.withPending (s : State) (rest : List Instr) : State := { s with pending := rest }

/-- One step: the front command of the queue, or one millisecond on an empty queue. -/
def step (s : State) : Host.Outcome State Fault Refusal :=
  match s.pending with
  | [] => .next s.tick
  | c :: rest => exec c (s.withPending rest)

/-- The state with the command a table word spells at the front of its queue; unchanged where the
word spells none (log 21). -/
def State.withFetchWord (s : State) (nbits w : Nat) : State :=
  match decodeTableWord nbits w with
  | some c => s.withPending (c :: s.pending)
  | none => s

end Sys2Proof.Machine
end

