-- ==== Sys2Proof/WellFormed.lean ====
section
/-! DEFINITION. Which commands can come about: what a request frame can carry, and which bytes make
a transfer the kind its row names (R181, R183, R198, R199). -/

namespace Sys2Proof

/-- The request a command carries, with its request code (R199); none for the others. -/
def Instr.request? : Instr → Option Machine.Request
  | .declareStation t p => some ⟨1, t, p⟩
  | .editStation t p => some ⟨2, t, p⟩
  | .readStation t p => some ⟨3, t, p⟩
  | .findName t p => some ⟨4, t, p⟩
  | .findNear t p => some ⟨5, t, p⟩
  | .retireStation t p => some ⟨6, t, p⟩
  | .clearSurvey t p => some ⟨7, t, p⟩
  | .openOccupation t p => some ⟨8, t, p⟩
  | .forceIntegrate t p => some ⟨9, t, p⟩
  | .stopOccupation t p => some ⟨10, t, p⟩
  | .cancelOccupation t p => some ⟨11, t, p⟩
  | .readOccupation t p => some ⟨12, t, p⟩
  | .excludeOccupation t p => some ⟨13, t, p⟩
  | .includeOccupation t p => some ⟨14, t, p⟩
  | .deleteOccupation t p => some ⟨15, t, p⟩
  | .readLoop t p => some ⟨16, t, p⟩
  | .abandonLoop t p => some ⟨17, t, p⟩
  | .releaseLoop t p => some ⟨18, t, p⟩
  | .readHead t p => some ⟨19, t, p⟩
  | .headReset t p => some ⟨20, t, p⟩
  | .stageCalibration t p => some ⟨21, t, p⟩
  | .readCalibration t p => some ⟨22, t, p⟩
  | .writeConstituent t p => some ⟨23, t, p⟩
  | .readConstituent t p => some ⟨24, t, p⟩
  | .setConstants t p => some ⟨25, t, p⟩
  | .setTime t p => some ⟨26, t, p⟩
  | .syncToPulse t p => some ⟨27, t, p⟩
  | .readTime t p => some ⟨28, t, p⟩
  | .readStatus t p => some ⟨29, t, p⟩
  | .clearNotices t p => some ⟨30, t, p⟩
  | .setNoticeMask t p => some ⟨31, t, p⟩
  | .linkReset t p => some ⟨32, t, p⟩
  | .unknownRequest c t p => some ⟨c, t, p⟩
  | .startupBusyAnswer c t p => some ⟨c, t, p⟩
  | .findNearScanEnd | .badRequestFrame _ | .fetchTransfer _ | .statusTransfer _ => none
  | .headFrame _ _ | .headLineCharacter _ _ | .characterFramingError _ | .frameBrokenOff _ => none
  | .headTimeout _ | .settleCountReached _ | .targetReached _ | .settlingDeadline _ => none
  | .capDeadline _ | .tideEvaluationComplete | .driftApplyComplete | .timePulse => none
  | .pulseLoss | .clockHoldAtMax | .partStart | .backupLostStartup | .resetNAssert => none
  | .vddFail | .backupDomainLoss => none

/-- A request code of the catalogue (R199). -/
def knownCode (code : Byte) : Bool := 1 ≤ code.toNat && code.toNat ≤ 32

/-- A payload a good frame can carry (R183 part 1). -/
def payloadFits (p : List Byte) : Bool := p.length ≤ Config.maxPayload

/-- A transfer that begins with the request marker and is bad (R181, R183). -/
def isBadFrame (mosi : List Byte) : Bool :=
  mosi.head? == some Config.requestMarker && (Machine.judgeFrame mosi).isNone

/-- A transfer whose first byte is neither the marker nor the fetch byte (R181). -/
def isStatusTransfer : List Byte → Bool
  | [] => false
  | b :: _ => b != Config.requestMarker && b != Config.fetchByte

/-- The command can come about as its row names it. -/
def Instr.wellFormed (i : Instr) : Bool :=
  match i with
  | .unknownRequest c _ p => !knownCode c && payloadFits p
  | .badRequestFrame mosi => isBadFrame mosi
  | .statusTransfer mosi => isStatusTransfer mosi
  | i =>
    match i.request? with
    | some r => payloadFits r.payload
    | none => true

end Sys2Proof
end

