-- ==== Sys2Proof/Safety.lean ====
section
/-! DEFINITION. The terms statements use: when a request is served, how an answered state looks, and
the invariants that every step keeps. -/

namespace Sys2Proof

/-- The payload length of a request code with a fixed form, but LINK_RESET (R199); STAGE_CALIBRATION
has none (R185). -/
def formLength (code : Nat) : Option Nat :=
  match code with
  | 1 => some 21 | 2 => some 24 | 3 => some 4 | 4 => some 14 | 5 => some 14 | 6 => some 2
  | 7 => some 1 | 8 => some 5 | 9 => some 1 | 10 => some 1 | 11 => some 1 | 12 => some 4
  | 13 => some 2 | 14 => some 2 | 15 => some 2 | 16 => some 3 | 17 => some 1 | 18 => some 1
  | 19 => some 3 | 20 => some 1 | 22 => some 4 | 23 => some 17 | 24 => some 3 | 25 => some 11
  | 26 => some 6 | 27 => some 4 | 28 => some 2 | 29 => some 2 | 30 => some 4 | 31 => some 4
  | _ => none

/-- The ten read requests (R188). -/
def Instr.isRead : Instr → Bool
  | .readStation _ _ | .findName _ _ | .findNear _ _ | .readOccupation _ _ | .readLoop _ _ => true
  | .readHead _ _ | .readCalibration _ _ | .readConstituent _ _ | .readTime _ _ => true
  | .readStatus _ _ => true
  | _ => false

end Sys2Proof

namespace Sys2Proof.Machine

/-! ## The link -/

/-- The link state is WORKING (R180). -/
def LinkState.isWorking : LinkState → Bool
  | .working _ => true
  | _ => false

/-- A good request frame is taken and reaches its owner (R178, R184, R185). -/
abbrev State.serves (s : State) : Prop :=
  s.running = true ∧ s.startup = false ∧ s.link.isWorking = false

/-- A state after a request transfer whose answer stands in the response buffer: `status` is the
status byte at the fall of CS, and all that MISO is said to show (R182, R183, R186; DESIGN CHOICE,
log 5). -/
def State.answeredAs (t : State) (status tag : Byte) (a : Answer) : State :=
  { t with link := .answered (responseFrame tag a), lastRejected := false, miso := [status] }

/-- The command is answered with a refusal and changes nothing at any owner (R186). -/
def State.refuses (s : State) (c : Instr) (tag : Byte) (code : ResponseCode) : Prop :=
  exec c s = .next (s.answeredAs s.statusByte tag ⟨code, []⟩)

/-- The command names record `k` of a table: a number at or above the limit is BAD_FIELD, a FREE
record NOT_FOUND (R12, R47, R125, R127, R131). -/
def State.refusesUnnamed {α : Type} (s : State) (c : Instr) (tag : Byte) (t : Table α)
    (limit k : Nat) : Prop :=
  (limit ≤ k → s.refuses c tag .badField)
    ∧ (k < limit → Table.get t k = none → s.refuses c tag .notFound)

/-- A set notice (R189). -/
def State.hasNotice (s : State) (n : Notice) : Prop := s.notices.getLsbD n.position = true

/-! ## Occupations and revision work -/

/-- `t` is `s` with the occupation of an engine's session failed (R65): the record, the notice, the
engine and the head's request at the Tide Engine, withdrawn (R106), alone differ. -/
def State.failedTo (s t : State) (h : Head) (w : Session) (cause : FailCause) : Prop :=
  t = { s with
        occupations :=
          Table.modify s.occupations w.occupation fun o => { o with state := .failed cause }
        engines := s.engines.set h .idle
        notices := s.notices ||| (Notice.occEnded h).flag
        tide := (s.withdraw (.head h)).tide }
    ∧ t.tide.headSlots.get h = .empty

/-- `t` is `s` with the occupation of an engine's session closed, the parts of R63 in order: the
record, its TIDE_REDO when it is tide-stale (R64), the handover to the Drift Unit (R115), the
STATION_VALUE of its station, the notice and the engine; then the Revision Engine takes what it can
(R136; log 12). -/
def State.closedTo (s t : State) (h : Head) (w : Session) (g : Integration) (grade : Grade) : Prop :=
  ∃ o, Table.get s.occupations w.occupation = some o
    ∧ let closed := { s with
        engines := s.engines.set h .idle
        occupations :=
          Table.modify s.occupations w.occupation (Occupation.close g grade (s.staleAtClose o)) }
      let queued := if s.staleAtClose o then closed.queueItem ⟨.tideRedo, w.occupation⟩ else closed
      let handed := (queued.handOver w.occupation).queueItem ⟨.stationValue, o.station⟩
      t = State.revise s.revisionBusy
        { handed with notices := handed.notices ||| (Notice.occEnded h).flag }

/-- HEAD_FRAME with this last character completes a valid frame whose sample is `x`, and `u` is the
state in which the sample reaches the engine: the channel has recorded the frame and the gap before it
is counted (R30 to R39). -/
def State.handsOn (s : State) (h : Head) (last : Byte) (x : Sample) (u : State) : Prop :=
  ∃ held, (s.channels.get h).receiver = ⟨.collecting, held⟩ ∧ held.length = 13
    ∧ frameValid (held ++ [last]) = true
    ∧ x = sampleOf (s.activeSet h) s.now (held ++ [last])
    ∧ u = State.engineGap
        { s with
          channels := s.channels.set h
            (Channel.afterFrame { s.channels.get h with lastCharacter := some s.timeBase }
              s.timeBase x) }
        h ((s.channels.get h).missing x.sequence)

/-- The station's STATION_VALUE waits, or the record holds what processing it would write (R144,
R148). -/
def State.valueFollows (t : State) (slot : Nat) : Prop :=
  ⟨.stationValue, slot⟩ ∈ t.revQueue
    ∨ ∀ st, Table.get t.stations slot = some st →
        st.processed t.constants.spreadLimit (t.contributing st.chain) = st

/-- From `s` to `t` loop `l` is abandoned for occupation `m`, whose one place in an abandoned loop it is:
a member loses its drift loop and D; the closer too, but for the 0 of a loop it anchors; the opener loses
its anchors loop, and its D where that is the anchor's 0 (R126 parts 1 to 3). -/
def State.withdrawnFrom (s t : State) (l : Loop) (m : Nat) : Prop :=
  ∀ o, Table.get s.occupations m = some o →
    (m ∈ l.members → l.closer ≠ some m → l.opener ≠ m →
      Table.get t.occupations m
        = some { o with driftLoop := none, drift := none, value := some o.corrected })
    ∧ (l.closer = some m → m ∉ l.members → l.opener ≠ m →
      Table.get t.occupations m
        = some { o with
                 driftLoop := none
                 drift := if o.anchorsLoop = none then none else some 0
                 value := some o.corrected })
    ∧ (l.opener = m → m ∉ l.members → l.closer ≠ some m →
      Table.get t.occupations m
        = some (if o.driftLoop = none ∧ o.drift = some 0 ∧ o.driftFrozen = false
            then { o with anchorsLoop := none, drift := none, value := some o.corrected }
            else { o with anchorsLoop := none }))

/-- Of the occupations `kept` from `s` to `t`, each whose D changed has its station's value formed anew
(R126 part 5). -/
def State.changedTermsFollow (s t : State) (kept : Nat → Prop) : Prop :=
  ∀ m o o', kept m → Table.get s.occupations m = some o → Table.get t.occupations m = some o' →
    o'.drift ≠ o.drift → t.valueFollows o.station

/-- A TIDE_REDO of the occupation waits or is in flight (R133). -/
def State.redoOwed (s : State) (n : Nat) : Prop :=
  ⟨.tideRedo, n⟩ ∈ s.revQueue ∨ s.redoing = some n

/-- A DRIFT_APPLY of the loop waits or is in flight (R113). -/
def State.applyOwed (s : State) (k : Nat) : Prop :=
  ⟨.driftApply, k⟩ ∈ s.revQueue ∨ s.applying = some k

/-! ## Invariants -/

/-- The stores keep their canonical form, the name index maps each non-FREE slot's name, and no
two stations hold one name (R2, R8). -/
def State.recordsIndexed (s : State) : Prop :=
  Table.wf s.stations ∧ Table.wf s.occupations ∧ Table.wf s.loops
    ∧ s.nameIndex = s.stations.map (fun e => (e.1, e.2.name))
    ∧ (s.stations.map (fun e => e.2.name)).Nodup

/-- Chains and pool agree: a chain holds at most 16 numbers, none twice, each a record of the station;
every record stands in the chain of its station; slots and numbers are those of the partition in
force (R1, R2, R11). -/
def State.chainsAgree (s : State) : Prop :=
  (∀ k st, Table.get s.stations k = some st →
    k < s.partition.slots ∧ st.chain.Nodup ∧ st.chain.length ≤ 16
      ∧ ∀ n ∈ st.chain, ∃ o, Table.get s.occupations n = some o ∧ o.station = k)
    ∧ ∀ n o, Table.get s.occupations n = some o →
      n < s.partition.records ∧ ∃ st, Table.get s.stations o.station = some st ∧ n ∈ st.chain

/-- A head's engine is IDLE exactly when the head has no OPEN occupation, and otherwise holds the one
it has (R44). -/
def State.engineHolds (s : State) (h : Head) : Prop :=
  match (s.engines.get h).session? with
  | none => ∀ n o, Table.get s.occupations n = some o → o.head = h → o.state ≠ .opened
  | some w =>
    (∃ o, Table.get s.occupations w.occupation = some o ∧ o.state = .opened ∧ o.head = h
      ∧ o.station = w.station)
      ∧ ∀ n o, Table.get s.occupations n = some o → o.head = h → o.state = .opened →
        n = w.occupation

/-- While the part has its supply: with a valid backup domain every engine holds its head's OPEN
occupation (R44); with a lost one every engine is IDLE, until the start-up sequence has ended (R173,
R175). -/
def State.enginesAgree (s : State) : Prop :=
  s.vdd = true →
    (s.backupValid = true ∧ s.startup = false ∧ ∀ h, s.engineHolds h)
      ∨ (s.backupValid = false ∧ (s.startup = true ∨ s.resetLow = true)
        ∧ ∀ h, s.engines.get h = .idle)

/-- An occupation that a loop names: a CLOSED one of the loop's head and calibration generation
(R114, R119). -/
def Loop.names (l : Loop) (o : Occupation) : Prop :=
  o.state = .closed ∧ o.head = l.head ∧ o.calGen = l.calGen

/-- Every opener, closer and member is a record in its role, of the loop's head and calibration
generation; a loop has a closer exactly when it is not OPEN, and a rate once it is applied; OPEN loops
and OPEN occupations carry their head's calibration generation (R112, R113, R114, R119). -/
def State.loopsSound (s : State) : Prop :=
  (∀ k l, Table.get s.loops k = some l →
    (∃ o, Table.get s.occupations l.opener = some o ∧ l.names o ∧ o.anchorsLoop = some k
      ∧ o.station = l.base)
      ∧ (∀ c, l.closer = some c → ∃ o, Table.get s.occupations c = some o ∧ l.names o
        ∧ o.driftLoop = some k ∧ o.station = l.base)
      ∧ (∀ m ∈ l.members, ∃ o, Table.get s.occupations m = some o ∧ l.names o
        ∧ o.driftLoop = some k)
      ∧ l.members.Nodup ∧ l.members.length ≤ 64
      ∧ (l.state = .opened ↔ l.closer = none)
      ∧ (l.state = .closed ∨ l.state = .suspect → l.rate ≠ none)
      ∧ (l.state = .opened → l.calGen = s.calGen.get l.head))
    ∧ ∀ n o, Table.get s.occupations n = some o → o.state = .opened →
      o.calGen = s.calGen.get o.head

/-- The Revision Queue never holds two items of one kind for one record (R134). -/
def State.queueDistinct (s : State) : Prop := s.revQueue.Nodup

/-- The ranges of an entry of the constituent table (R91). -/
def Constituent.inRange (c : Constituent) : Prop :=
  c.speed < 281474976710656 ∧ c.v0 < 4294967296 ∧ -8191 ≤ c.amplitude ∧ c.amplitude ≤ 8191
    ∧ c.delta ≤ 32767

/-- Twelve entries, each in range (R91). -/
def constituentsInRange (cs : List Constituent) : Prop := cs.length = 12 ∧ ∀ c ∈ cs, c.inRange

/-- The sum of |A| × δ over the enabled entries of a table. -/
def amplitudeSum : List Constituent → Nat
  | [] => 0
  | c :: cs => (if c.enabled then c.amplitude.natAbs * c.delta else 0) + amplitudeSum cs

/-- The ranges of the survey constants (R169). -/
def SurveyConstants.inRange (c : SurveyConstants) : Prop :=
  1 ≤ c.driftLimit ∧ c.driftLimit ≤ 655360 ∧ 1 ≤ c.spreadLimit ∧ c.spreadLimit ≤ 100000
    ∧ 1 ≤ c.pulseTolerance ∧ c.pulseTolerance ≤ 200

/-- Every field of every set and constant, and of the Factory Block, is in range (R162). -/
def State.coefficientsInRange (s : State) : Prop :=
  (∀ h, (s.active.get h).inRange) ∧ (∀ h set, s.staged.get h = some set → set.inRange)
    ∧ constituentsInRange s.constituents ∧ s.constants.inRange
    ∧ constituentsInRange s.factory.constituents ∧ s.factory.constants.inRange
    ∧ s.factory.template.inRange

/-- Every CLOSED record holds V = S̄ + T̄ − D, D taken as 0 when absent (R87). -/
def State.valuesHold (s : State) : Prop :=
  ∀ e ∈ s.occupations, e.2.state = .closed →
    e.2.value = some (e.2.corrected - e.2.drift.getD 0)

/-- The OPEN loops of a head. -/
def State.openLoopsOn (s : State) (h : Head) : Table Loop :=
  s.loops.filter fun e => e.2.head == h && e.2.state == .opened

/-- Each head has at most one OPEN loop (R119). -/
def State.oneOpenLoop (s : State) : Prop := ∀ h, (s.openLoopsOn h).length ≤ 1

/-- Survey time and a pending set are within range, and no set is pending while an occupation is
OPEN (R153, R154, R157). -/
def State.timeSound (s : State) : Prop :=
  (∀ t, s.clock = some t → t ≤ Config.maxSurveyTime)
    ∧ (∀ sec, s.pulse.pendingSet = some sec → sec ≤ 4294967295)
    ∧ (s.anyOpen = true → s.pulse.pendingSet = none)

/-- While the part has its supply and a valid backup domain, no revision work is lost: a CLOSED
tide-stale occupation has its TIDE_REDO, and a CLOSING loop its DRIFT_APPLY, waiting or in flight, and
a value-stale station its STATION_VALUE waiting (R113, R133, R136, R148). -/
def State.marksHaveItems (s : State) : Prop :=
  s.vdd = true → s.backupValid = true →
    (∀ e ∈ s.occupations, e.2.state = .closed → e.2.tideStale = true → s.redoOwed e.1)
      ∧ (∀ k l, Table.get s.loops k = some l → l.state = .closing → s.applyOwed k)
      ∧ (∀ e ∈ s.stations, e.2.valueStale = true → ⟨.stationValue, e.1⟩ ∈ s.revQueue)

end Sys2Proof.Machine
end

