-- ==== Sys2Proof/Certificates/Slice0/Obligations.lean ====
section
/-! DEFINITION. The statements for the provers. A rule number R<n> is that of spec/; "log <n>" is
notes/assumptions/<n>.md. Wherever a statement says what MISO shows of a request transfer, in
`State.answeredAs` or in a `miso` field, that is log 5. -/

section

open Sys2Proof Sys2Proof.Machine

/-! ## The step -/

/-- The step takes the command at the front of the queue and runs it with the rest (log 2). -/
def Obligations.StepRunsFrontCommand : Prop :=
  ∀ (c : Instr) (rest : List Instr) (s : State), s.pending = c :: rest →
    step s = exec c { s with pending := rest }

/-- The model's choice (log 2, log 4, log 26): a step on an empty queue passes one millisecond. The time
base counts while VDD is present (R152), the clock counts and holds at its largest value (R153), a
drift walk in flight passes its list (R142) while a TIDE_REDO in flight keeps all it holds, and nothing
else of the part changes; the queue then holds the commands that have come due: the clock's hold, and on
a running part each deadline reached and each end of work in progress. -/
def Obligations.IdleStepPassesOneMillisecond : Prop :=
  ∀ s : State, s.pending = [] → ∃ t, step s = .next t
    ∧ t = { s with
            timeBase := if s.vdd then s.timeBase + 1 else s.timeBase
            clock := s.clock.map fun x => min (x + 1) Config.maxSurveyTime
            inFlight := match s.inFlight with
              | some (.driftApply k _) =>
                some (.driftApply k (((Table.get s.loops k).map fun l => l.members.length).getD 0))
              | some (.tideRedo n held awaited) => some (.tideRedo n held awaited)
              | none => none
            pending := t.pending }
    ∧ t.pending
      = (if t.clock = some Config.maxSurveyTime ∧ s.clock ≠ t.clock then [.clockHoldAtMax] else [])
        ++ (if s.running then t.dueRunning else [])
    ∧ ∀ c, c ∈ t.dueRunning ↔
      (c = .backupLostStartup ∧ s.startup = true)
      ∨ (∃ h, (c = .frameBrokenOff h ∧ t.pauseDue h = true)
        ∨ (c = .headTimeout h ∧ t.timeoutDue h = true)
        ∨ (c = .settlingDeadline h ∧ t.settlingDue h = true)
        ∨ (c = .capDeadline h ∧ t.capDue h = true))
      ∨ (c = .pulseLoss ∧ t.pulseLossDue = true)
      ∨ (c = .tideEvaluationComplete ∧ s.tide.evaluation ≠ none)
      ∨ (c = .driftApplyComplete ∧ s.applying ≠ none)
      ∨ (c = .findNearScanEnd ∧ s.scan ≠ none)

/-! ## Frames on the link -/

/-- A request frame of any code, tag and payload of 512 bytes at most is good and carries just that
request (R183, R198). -/
def Obligations.WireFrameRoundTrip : Prop :=
  ∀ (code tag : Byte) (p : List Byte), p.length ≤ 512 →
    judgeFrame (requestFrame code tag p) = some ⟨code, tag, p⟩

/-- A request frame shifted in on MOSI does what the command of its row does (R181, R184, R199). That a
good frame sent under the rows BAD_REQUEST_FRAME and STATUS_TRANSFER is served is the model's reading
(log 6). -/
def Obligations.WireFrameRunsItsRow : Prop :=
  ∀ (i : Instr) (r : Request) (s : State), i.request? = some r → r.payload.length ≤ 512 →
    exec (.badRequestFrame (requestFrame r.code r.tag r.payload)) s = exec i s
      ∧ exec (.statusTransfer (requestFrame r.code r.tag r.payload)) s = exec i s

/-- A request frame with any one byte after the marker changed is bad (R183, R196). -/
def Obligations.DamagedFrameIsRejected : Prop :=
  ∀ (code tag : Byte) (p : List Byte) (k : Nat) (b : Byte), p.length ≤ 512 → 1 ≤ k →
    k < 7 + p.length → (requestFrame code tag p)[k]? ≠ some b →
      judgeFrame ((requestFrame code tag p).set k b) = none

/-- A bad frame is discarded in every link state; a fetch shifts out the waiting frame and releases
it when it is read whole; a status transfer shifts out fill. Nothing else changes (R181, R183,
R187; what MISO shows of the bad frame, log 5). The first byte decides what a transfer is, under
BAD_REQUEST_FRAME as under STATUS_TRANSFER (R181; that bytes which do not fit the row's name act as on the
wire is log 6). -/
def Obligations.TransfersWithoutRequest : Prop :=
  ∀ s : State, s.running = true →
    (∀ mosi, isBadFrame mosi = true →
      exec (.badRequestFrame mosi) s
        = .next { s with miso := [s.statusByte], lastRejected := true })
    ∧ (∀ mosi, isStatusTransfer mosi = true →
      exec (.statusTransfer mosi) s = .next
        { s with miso := s.statusByte :: List.replicate (mosi.length - 1) 0xFF })
    ∧ (∀ mosi, isBadFrame mosi = true →
      exec (.statusTransfer mosi) s = exec (.badRequestFrame mosi) s)
    ∧ (∀ mosi, isStatusTransfer mosi = true →
      exec (.badRequestFrame mosi) s = exec (.statusTransfer mosi) s)
    ∧ (∀ rest, exec (.badRequestFrame (0x69 :: rest)) s = exec (.fetchTransfer rest.length) s
      ∧ exec (.statusTransfer (0x69 :: rest)) s = exec (.fetchTransfer rest.length) s)
    ∧ (∀ n f, s.link = .answered f → f.length ≤ n →
      exec (.fetchTransfer n) s = .next
        { s with
          miso := s.statusByte :: (f ++ List.replicate (n - f.length) 0xFF), link := .idle })
    ∧ (∀ n f, s.link = .answered f → n < f.length →
      exec (.fetchTransfer n) s = .next { s with miso := s.statusByte :: f.take n })
    ∧ (∀ n, (∀ f, s.link ≠ .answered f) →
      exec (.fetchTransfer n) s = .next
        { s with miso := s.statusByte :: List.replicate n 0xFF })

/-- While a request is WORKING every good frame but LINK_RESET is ignored: it only makes
last-frame-rejected no (R184; what MISO shows of it, log 5). -/
def Obligations.WorkingIgnoresRequests : Prop :=
  ∀ (i : Instr) (r : Request) (s : State), s.running = true → s.startup = false →
    s.link.isWorking = true → i.request? = some r → r.code ≠ 32 → r.payload.length ≤ 512 →
      exec i s = .next { s with miso := [s.statusByte], lastRejected := false }

/-- The link itself answers BUSY to every request while the backup-lost start-up runs (the row
STARTUP_BUSY_ANSWER, log 6, and every other request), UNKNOWN_REQUEST to a code outside the catalogue,
and BAD_FIELD to a payload of another length than its form's; no owner is reached (R178, R185, R199). -/
def Obligations.LinkAnswersForItself : Prop :=
  (∀ (i : Instr) (r : Request) (s : State), s.running = true → s.startup = true →
    s.link.isWorking = false → i.request? = some r → r.payload.length ≤ 512 →
      exec i s = .next (s.answeredAs s.statusByte r.tag ⟨.busy, []⟩))
  ∧ (∀ (code tag : Byte) (p : List Byte) (s : State), s.serves → knownCode code = false →
    p.length ≤ 512 →
      exec (.unknownRequest code tag p) s
        = .next (s.answeredAs s.statusByte tag ⟨.unknownRequest, []⟩))
  ∧ (∀ (i : Instr) (r : Request) (n : Nat) (s : State), s.serves → i.request? = some r →
    formLength r.code.toNat = some n → r.payload.length ≠ n → r.payload.length ≤ 512 →
      s.refuses i r.tag .badField)

/-- LINK_RESET (R194): in every link state the response, the request and a FIND_NEAR scan are given
up, last-frame-rejected becomes no, the link is IDLE and no response is built; during the
backup-lost start-up it is answered BUSY; a bad frame resets nothing (R178,
R183, R186). What MISO shows of the frame is log 5. -/
def Obligations.LinkResetReturnsToIdle : Prop :=
  ∀ (tag : Byte) (s : State), s.running = true →
    (s.startup = false → exec (.linkReset tag []) s = .next
      { s with link := .idle, scan := none, lastRejected := false, miso := [s.statusByte] })
    ∧ (s.startup = true →
      exec (.linkReset tag []) s = .next (s.answeredAs s.statusByte tag ⟨.busy, []⟩))
    ∧ (∀ b : Byte, (requestFrame 32 tag [])[6]? ≠ some b →
      exec (.badRequestFrame ((requestFrame 32 tag []).set 6 b)) s
        = .next { s with miso := [s.statusByte], lastRejected := true })

/-- The status byte's bits, and ATTN: asserted exactly while a set notice is enabled, outside a
start-up (R182, R190, R198). -/
def Obligations.StatusByteAndAttn : Prop :=
  ∀ s : State,
    s.statusByte.toNat / 64 = s.link.code
    ∧ s.statusByte.getLsbD 5 = s.attn ∧ s.statusByte.getLsbD 4 = s.lastRejected
    ∧ s.statusByte.getLsbD 3 = decide (s.revQueue ≠ [] ∨ s.inFlight ≠ none)
    ∧ s.statusByte.toNat % 8 = 0
    ∧ (s.running = true → s.startup = false →
      (s.attn = true ↔ ∃ n : Notice, s.hasNotice n ∧ s.noticeMask.getLsbD n.position = true))
    ∧ (s.startup = true → s.attn = false)

/-- CLEAR_NOTICES clears the notices its operand names and no other; SET_NOTICE_MASK replaces the
whole mask and changes no notice; ATTN follows in the same step (R191, R192; what MISO shows of the request, log 5). -/
def Obligations.NoticeRequestsServed : Prop :=
  ∀ (tag : Byte) (p : List Byte) (s : State), s.serves → p.length = 4 →
    (∀ j, j < 19 → (noticesOf p).getLsbD j = (beNat p).testBit j)
    ∧ (∃ t : State, exec (.clearNotices tag p) s = .next (t.answeredAs s.statusByte tag
          ⟨.done, noticeBytes s.notices ++ noticeBytes t.notices⟩)
        ∧ t = { s with notices := t.notices }
        ∧ (∀ j, t.notices.getLsbD j = (s.notices.getLsbD j && !(noticesOf p).getLsbD j))
        ∧ t.attn = ((t.notices &&& s.noticeMask) != 0))
    ∧ (∃ t : State, exec (.setNoticeMask tag p) s = .next (t.answeredAs s.statusByte tag
          ⟨.done, noticeBytes (noticesOf p) ++ noticeBytes s.notices⟩)
        ∧ t = { s with noticeMask := noticesOf p }
        ∧ t.attn = ((s.notices &&& noticesOf p) != 0))

/-! ## Requests as a whole -/

/-- A read request changes nothing but the link, MISO and the scan a FIND_NEAR starts (R18, R19, R20,
R22, R41, R69, R110, R131, R160, R168, R188, R193). -/
def Obligations.ReadsChangeNothing : Prop :=
  ∀ (i : Instr) (s t : State), i.isRead = true → exec i s = .next t →
    t = { s with
          link := t.link, lastRejected := t.lastRejected, miso := t.miso, scan := t.scan }
    ∧ ((∀ tag p, i ≠ .findNear tag p) → t.scan = s.scan)

/-- A request that is not answered DONE changes nothing but the link, MISO and the scan that a
FIND_NEAR starts or a LINK_RESET ends (R186). -/
def Obligations.RefusalsChangeNothing : Prop :=
  ∀ (i : Instr) (r : Request) (s t : State), i.request? = some r → exec i s = .next t →
    (∀ p, t.link ≠ .answered (responseFrame r.tag ⟨.done, p⟩)) →
      t = { s with
            link := t.link, lastRejected := t.lastRejected, miso := t.miso, scan := t.scan }

/-- READ_STATION, FIND_NAME, READ_OCCUPATION and READ_LOOP of a record that exists are answered
with its layout, cut to the maximum length and to 512 bytes; a number that does not exist is BAD_FIELD,
as is an illegal name, and a FREE record or a name nobody holds NOT_FOUND (R12, R18, R19, R47, R69,
R131, R188, R200). -/
def Obligations.RecordReadsAnswered : Prop :=
  ∀ (tag : Byte) (m : Nat) (s : State), s.serves → m < 65536 →
    (∀ k st, k < s.partition.slots → Table.get s.stations k = some st →
      exec (.readStation tag (beBytes 2 k ++ beBytes 2 m)) s = .next
        (s.answeredAs s.statusByte tag ⟨.done, (stationBytes k st).take (min m 512)⟩))
    ∧ (∀ raw n k st, raw.length ≤ 12 → (0 : Byte) ∉ raw → legalName raw = some n →
      s.slotNamed n = some k → Table.get s.stations k = some st →
      exec (.findName tag (nameBytes raw ++ beBytes 2 m)) s = .next
        (s.answeredAs s.statusByte tag
          ⟨.done, (beBytes 2 k ++ stationBytes k st).take (min m 512)⟩))
    ∧ (∀ n o, n < s.partition.records → Table.get s.occupations n = some o →
      exec (.readOccupation tag (beBytes 2 n ++ beBytes 2 m)) s = .next
        (s.answeredAs s.statusByte tag
          ⟨.done, (occupationBytes n o (s.engines.get o.head)).take (min m 512)⟩))
    ∧ (∀ k l, k < 32 → Table.get s.loops k = some l →
      exec (.readLoop tag (beBytes 1 k ++ beBytes 2 m)) s = .next
        (s.answeredAs s.statusByte tag ⟨.done, (s.loopBytes k l).take (min m 512)⟩))
    ∧ (∀ k, k < 65536 →
      s.refusesUnnamed (.readStation tag (beBytes 2 k ++ beBytes 2 m)) tag s.stations
        s.partition.slots k)
    ∧ (∀ raw, raw.length ≤ 12 → (0 : Byte) ∉ raw →
      (legalName raw = none →
        s.refuses (.findName tag (nameBytes raw ++ beBytes 2 m)) tag .badField)
      ∧ (∀ n, legalName raw = some n → s.slotNamed n = none →
        s.refuses (.findName tag (nameBytes raw ++ beBytes 2 m)) tag .notFound))
    ∧ (∀ n, n < 65536 →
      s.refusesUnnamed (.readOccupation tag (beBytes 2 n ++ beBytes 2 m)) tag s.occupations
        s.partition.records n)
    ∧ (∀ k, k < 256 →
      s.refusesUnnamed (.readLoop tag (beBytes 1 k ++ beBytes 2 m)) tag s.loops 32 k)

/-- READ_HEAD, READ_STATUS, READ_TIME, READ_CALIBRATION and READ_CONSTITUENT are answered with
their layout, cut; a head, set or index outside its range is BAD_FIELD, and a STAGED set that is absent
NOT_FOUND (R41, R110, R160, R168, R188, R193, R200; the unnamed bits of a sample's flags are log 28). -/
def Obligations.UnitReadsAnswered : Prop :=
  ∀ (tag : Byte) (m : Nat) (s : State), s.serves → m < 65536 →
    (∀ h : Head, exec (.readHead tag (beBytes 1 h.code ++ beBytes 2 m)) s = .next
      (s.answeredAs s.statusByte tag ⟨.done, (s.headBytes h).take (min m 512)⟩))
    ∧ exec (.readStatus tag (beBytes 2 m)) s = .next
      (s.answeredAs s.statusByte tag ⟨.done, s.statusBytes.take (min m 512)⟩)
    ∧ exec (.readTime tag (beBytes 2 m)) s = .next
      (s.answeredAs s.statusByte tag ⟨.done, s.timeAnswerBytes.take (min m 512)⟩)
    ∧ (∀ h : Head, exec (.readCalibration tag (beBytes 1 h.code ++ [0] ++ beBytes 2 m)) s = .next
      (s.answeredAs s.statusByte tag
        ⟨.done, (s.calibrationAnswerBytes h (s.active.get h)).take (min m 512)⟩))
    ∧ (∀ (h : Head) (set : CalibrationSet), s.staged.get h = some set →
      exec (.readCalibration tag (beBytes 1 h.code ++ [1] ++ beBytes 2 m)) s = .next
        (s.answeredAs s.statusByte tag
          ⟨.done, (s.calibrationAnswerBytes h set).take (min m 512)⟩))
    ∧ (∀ i c, i < 256 → s.constituents[i]? = some c →
      exec (.readConstituent tag (beBytes 1 i ++ beBytes 2 m)) s = .next
        (s.answeredAs s.statusByte tag
          ⟨.done, (constituentAnswerBytes i c s.tableGen).take (min m 512)⟩))
    ∧ (∀ code : Byte, 3 < code.toNat → s.refuses (.readHead tag ([code] ++ beBytes 2 m)) tag .badField)
    ∧ (∀ code which : Byte, 3 < code.toNat ∨ 1 < which.toNat →
      s.refuses (.readCalibration tag ([code, which] ++ beBytes 2 m)) tag .badField)
    ∧ (∀ h : Head, s.staged.get h = none →
      s.refuses (.readCalibration tag (beBytes 1 h.code ++ [1] ++ beBytes 2 m)) tag .notFound)
    ∧ (∀ i, 11 < i → i < 256 → s.constituents.length = 12 →
      s.refuses (.readConstituent tag (beBytes 1 i ++ beBytes 2 m)) tag .badField)

/-- The lengths of the uncut answers (R200). -/
def Obligations.AnswerLengths : Prop :=
  (∀ k st, st.name.length ≤ 12 → (stationBytes k st).length = 48 + 2 * st.chain.length)
  ∧ (∀ n o e, (occupationBytes n o e).length = 80 + 15 * o.steps.length)
  ∧ (∀ (s : State) k l, (s.loopBytes k l).length = 26 + 6 * l.members.length)
  ∧ (∀ (s : State) h, (s.headBytes h).length = 60)
  ∧ (∀ s : State, s.statusBytes.length = 29) ∧ (∀ s : State, s.timeAnswerBytes.length = 22)

/-! ## The Station Store -/

/-- DECLARE_STATION with legal operands fills the lowest FREE slot: its record is DECLARED with the
folded name, the wrapped longitude and everything else empty; otherwise BAD_FIELD, NAME_TAKEN or
TABLE_FULL in that order, and nothing changes (R7, R9, R13, R14; what MISO shows of the request,
log 5). -/
def Obligations.DeclareStationWrites : Prop :=
  (∀ (tag : Byte) (raw : List Byte) (role : Byte) (la lo : Int) (n : Name) (r : Role) (la' lo' : Int)
    (k : Nat) (s : State), s.serves → raw.length ≤ 12 → (0 : Byte) ∉ raw →
    legalName raw = some n → Role.ofCode role = some r → normLatitude la = some la' →
    normLongitude lo = some lo' → (∀ e ∈ s.nameIndex, e.2 ≠ n) →
    Table.firstFree s.stations s.partition.slots = some k →
      exec (.declareStation tag (DeclareOperands.toPayload ⟨raw, role, la, lo⟩)) s = .next
        ({ s with
            stations := Table.put s.stations k (Station.fresh n r la' lo')
            nameIndex := Table.put s.nameIndex k n }.answeredAs s.statusByte tag
          ⟨.done, beBytes 2 k ++ nameBytes n ++ beSignedBytes 4 lo'⟩))
  ∧ (∀ (t : Table Station) (limit k : Nat), Table.firstFree t limit = some k ↔
      k < limit ∧ Table.get t k = none ∧ ∀ j, j < k → (Table.get t j).isSome = true)
  ∧ (∀ (tag : Byte) (raw : List Byte) (role : Byte) (la lo : Int) (s : State), s.serves →
    raw.length ≤ 12 → (0 : Byte) ∉ raw → -2147483648 ≤ la → la ≤ 2147483647 →
    -2147483648 ≤ lo → lo ≤ 2147483647 →
    let c := Instr.declareStation tag (DeclareOperands.toPayload ⟨raw, role, la, lo⟩)
    (legalName raw = none ∨ Role.ofCode role = none ∨ normLatitude la = none
        ∨ normLongitude lo = none → s.refuses c tag .badField)
      ∧ ∀ n, legalName raw = some n → Role.ofCode role ≠ none → normLatitude la ≠ none →
        normLongitude lo ≠ none →
          ((∃ e ∈ s.nameIndex, e.2 = n) → s.refuses c tag .nameTaken)
          ∧ ((∀ e ∈ s.nameIndex, e.2 ≠ n) →
            Table.firstFree s.stations s.partition.slots = none → s.refuses c tag .tableFull))

/-- EDIT_STATION with legal operands that leave the stored position alone writes the carried fields
and moves the name index; the coordinate generation and all else stay. A bad or FREE slot, an illegal
field, another station's name and the role FIELD for the base of a loop are refused in that order, and
nothing changes (R8, R10, R12, R15, R16). -/
def Obligations.EditStationWrites : Prop :=
  (∀ (tag : Byte) (o : EditOperands) (st : Station) (e : StationEdit) (s : State), s.serves →
    (∀ raw, o.name = some raw → raw.length ≤ 12 ∧ (0 : Byte) ∉ raw) →
    o.slot < s.partition.slots → Table.get s.stations o.slot = some st → o.check = some e →
    s.editNameTaken o.slot e = false → s.editInUse o.slot st e = false →
    st.movedBy e = false →
      exec (.editStation tag o.toPayload) s = .next
        ({ s with
            stations := Table.put s.stations o.slot
              { st with name := e.name.getD st.name, role := e.role.getD st.role }
            nameIndex := Table.put s.nameIndex o.slot (e.name.getD st.name) }.answeredAs
          s.statusByte tag
          ⟨.done, stationBytes o.slot
            { st with name := e.name.getD st.name, role := e.role.getD st.role }⟩))
  ∧ (∀ (tag : Byte) (o : EditOperands) (s : State), s.serves → o.slot < 65536 →
    (∀ raw, o.name = some raw → raw.length ≤ 12 ∧ (0 : Byte) ∉ raw) →
    (∀ v, o.latitude = some v ∨ o.longitude = some v → -2147483648 ≤ v ∧ v ≤ 2147483647) →
    let c := Instr.editStation tag o.toPayload
    s.refusesUnnamed c tag s.stations s.partition.slots o.slot
      ∧ ∀ st, o.slot < s.partition.slots → Table.get s.stations o.slot = some st →
        (o.check = none → s.refuses c tag .badField)
        ∧ ∀ e, o.check = some e →
          (s.editNameTaken o.slot e = true → s.refuses c tag .nameTaken)
          ∧ (s.editNameTaken o.slot e = false → s.editInUse o.slot st e = true →
            s.refuses c tag .inUse))
  ∧ (∀ (slot : Nat) (st : Station) (e : StationEdit) (s : State),
    (s.editNameTaken slot e = true ↔
      ∃ n, e.name = some n ∧ ∃ x ∈ s.nameIndex, x.2 = n ∧ x.1 ≠ slot)
    ∧ (s.editInUse slot st e = true ↔
      e.role = some .field ∧ st.role = .base ∧ ∃ x ∈ s.loops, x.2.base = slot))

/-- EDIT_STATION that changes the stored position raises the coordinate generation by 1, marks every
CLOSED occupation of the chain tide-stale, leaves every other occupation as it was, and a TIDE_REDO
is owed for each marked one; the answer is the record after the edit (R10, R16, R17, R140). -/
def Obligations.MovedStationMarksItsOccupations : Prop :=
  ∀ (tag : Byte) (o : EditOperands) (st : Station) (e : StationEdit) (s : State), s.serves →
    (∀ raw, o.name = some raw → raw.length ≤ 12 ∧ (0 : Byte) ∉ raw) →
    o.slot < s.partition.slots → Table.get s.stations o.slot = some st → o.check = some e →
    s.editNameTaken o.slot e = false → s.editInUse o.slot st e = false →
    st.movedBy e = true →
      ∃ t : State, exec (.editStation tag o.toPayload) s = .next t
        ∧ t.link = .answered (responseFrame tag ⟨.done, stationBytes o.slot { st with
            name := e.name.getD st.name, role := e.role.getD st.role
            latitude := e.latitude.getD st.latitude
            longitude := e.longitude.getD st.longitude, coordGen := st.coordGen + 1 }⟩)
        ∧ (∃ st' : Station, Table.get t.stations o.slot = some st'
          ∧ st'.coordGen = st.coordGen + 1
          ∧ st'.latitude = e.latitude.getD st.latitude
          ∧ st'.longitude = e.longitude.getD st.longitude
          ∧ st'.name = e.name.getD st.name ∧ st'.role = e.role.getD st.role
          ∧ st'.chain = st.chain)
        ∧ (∀ n oc, n ∈ st.chain → Table.get s.occupations n = some oc → oc.state = .closed →
          Table.get t.occupations n = some { oc with tideStale := true } ∧ t.redoOwed n)
        ∧ (∀ n, n ∉ s.closedOf st.chain →
          Table.get t.occupations n = Table.get s.occupations n)
        ∧ t.loops = s.loops ∧ t.engines = s.engines ∧ t.channels = s.channels
        ∧ t.constituents = s.constituents ∧ t.tableGen = s.tableGen ∧ t.clock = s.clock

/-- RETIRE_STATION with no OPEN occupation frees the station, its occupations, its name and the
loops based at it, takes its occupations out of the member lists of other loops (read where the Loop
Table is sound), and leaves no revision item for it or for one of its occupations. The terms of the
abandoned loops are withdrawn from the occupations that stay, the stations of those whose D changed have
their values formed anew, and every other occupation that stays is as it was. A bad or FREE slot and an
OPEN occupation refuse it (R12, R23, R24, R126, R130). -/
def Obligations.RetirementFreesEverything : Prop :=
  (∀ (tag : Byte) (k : Nat) (st : Station) (s : State), s.serves → k < s.partition.slots →
    Table.get s.stations k = some st → s.chainOpen st.chain = false →
      ∃ t : State, exec (.retireStation tag (beBytes 2 k)) s = .next t
        ∧ t.link = .answered (responseFrame tag ⟨.done,
            beBytes 2 st.chain.length ++ beBytes 2 (s.loopsBasedAt k).length⟩)
        ∧ Table.get t.stations k = none ∧ Table.get t.nameIndex k = none
        ∧ (∀ n, n ∈ st.chain → Table.get t.occupations n = none)
        ∧ (∀ n l, Table.get t.loops n = some l → l.base ≠ k)
        ∧ (∀ i ∈ t.revQueue, targetsStation k st.chain i = false)
        ∧ (∀ n, t.redoing = some n → n ∉ st.chain)
        ∧ (Table.wf s.loops → s.loopsSound → ∀ j l, Table.get s.loops j = some l → l.base ≠ k →
          Table.get t.loops j
            = some { l with members := l.members.filter fun n => !decide (n ∈ st.chain) })
        ∧ (Table.wf s.loops →
          (∀ j l m, Table.get s.loops j = some l → l.base = k → m ∉ st.chain →
            (∀ j' l', j' ≠ j → Table.get s.loops j' = some l' → l'.base = k → m ∉ l'.occupants) →
            s.withdrawnFrom t l m)
          ∧ (∀ m, m ∉ st.chain →
            (∀ j l, Table.get s.loops j = some l → l.base = k → m ∉ l.occupants) →
            Table.get t.occupations m = Table.get s.occupations m)
          ∧ s.changedTermsFollow t fun m => m ∉ st.chain)
        ∧ t.engines = s.engines ∧ t.channels = s.channels ∧ t.active = s.active
        ∧ t.staged = s.staged ∧ t.clock = s.clock)
  ∧ (∀ (tag : Byte) (k : Nat) (s : State), s.serves → k < 65536 →
    s.refusesUnnamed (.retireStation tag (beBytes 2 k)) tag s.stations s.partition.slots k
    ∧ ∀ st n o, k < s.partition.slots → Table.get s.stations k = some st → n ∈ st.chain →
      Table.get s.occupations n = some o → o.state = .opened →
        s.refuses (.retireStation tag (beBytes 2 k)) tag .busy)

/-- CLEAR_SURVEY with no OPEN occupation empties the stores and the queue, takes the partition, withdraws
the tide request of a TIDE_REDO in flight, sets REVISION_IDLE when the engine was busy, and keeps the
Coefficient Store, the channels, the engines, the clock and the mask; a code that is no partition is
BAD_FIELD, and an OPEN occupation BUSY (R3, R4, R106). -/
def Obligations.ClearSurveyEmptiesTheStores : Prop :=
  ∀ (tag code : Byte) (s : State), s.serves →
    (∀ part, Partition.ofCode code = some part → s.anyOpen = false →
      ∃ t : State, exec (.clearSurvey tag [code]) s = .next
          (t.answeredAs s.statusByte tag ⟨.done, beBytes 1 part.code⟩)
        ∧ t = { s with
                partition := part, stations := [], nameIndex := [], occupations := [], loops := []
                revQueue := [], inFlight := none
                tide := if s.redoing.isSome then (s.withdraw .revision).tide else s.tide
                notices := if s.revisionBusy then s.notices ||| Notice.revisionIdle.flag
                  else s.notices }
        ∧ t.tide.headSlots = s.tide.headSlots
        ∧ (s.redoing.isSome = true → t.tide.revisionSlot = .empty))
    ∧ (code.toNat = 0 ∨ 3 < code.toNat → s.refuses (.clearSurvey tag [code]) tag .badField)
    ∧ (1 ≤ code.toNat → code.toNat ≤ 3 → s.anyOpen = true →
      s.refuses (.clearSurvey tag [code]) tag .busy)

/-- FIND_NEAR with legal coordinates starts a scan with its radius clamped and the link stays
WORKING; a latitude or longitude out of range is BAD_FIELD and starts none; the end of the scan answers with the list, cut, and writes nothing else
(R9, R20, R22, R186, R188). The scan ends whenever its end comes (log 4), and the whole table is judged
at that moment (log 8); what MISO shows of the request is log 5. -/
def Obligations.FindNearScans : Prop :=
  (∀ (tag : Byte) (la lo la' lo' : Int) (radius m : Nat) (s : State), s.serves →
    normLatitude la = some la' → normLongitude lo = some lo' → radius < 4294967296 → m < 65536 →
      exec (.findNear tag
          (beSignedBytes 4 la ++ beSignedBytes 4 lo ++ beBytes 4 radius ++ beBytes 2 m)) s = .next
        { s with
          link := .working ⟨5, tag,
            beSignedBytes 4 la ++ beSignedBytes 4 lo ++ beBytes 4 radius ++ beBytes 2 m⟩
          scan := some { latitude := la', longitude := lo', radius := clampNat 1 10000000 radius
                         cosine := cosQ15 (binaryAngle la') }
          lastRejected := false, miso := [s.statusByte] })
  ∧ (∀ (tag : Byte) (la lo : Int) (radius m : Nat) (s : State), s.serves →
    -2147483648 ≤ la → la ≤ 2147483647 → -2147483648 ≤ lo → lo ≤ 2147483647 →
    radius < 4294967296 → m < 65536 → normLatitude la = none ∨ normLongitude lo = none →
      s.refuses (.findNear tag
        (beSignedBytes 4 la ++ beSignedBytes 4 lo ++ beBytes 4 radius ++ beBytes 2 m)) tag .badField)
  ∧ (∀ (r : Request) (q : NearQuery) (s : State), s.running = true → s.link = .working r →
    s.scan = some q →
      exec .findNearScanEnd s = .next
        { s with
          link := .answered (responseFrame r.tag
            (cut (maximumLength r.payload) (nearAnswer q (scanStations q s.stations))))
          scan := none })

/-- The distance measure of a station, its longitude difference reduced by one turn at most, its dx
rounded to nearest with halves away from zero, within its bounds for positions in range, and taken from
the latitude alone at a pole; a station is taken when it is at most the squared radius (R21). The scan
counts the stations taken, and lists the nearest of them, 8 at most, by squared distance and then by
slot. -/
def Obligations.NearestStationsListed : Prop :=
  (∀ (q : NearQuery) (st : Station),
    let dLat := st.latitude - q.latitude
    let d := st.longitude - q.longitude
    let dLon := if d < -180000000 then d + 360000000
      else if 180000000 ≤ d then d - 360000000 else d
    ∃ dx : Int, (nearMeasure q st : Int) = dx * dx + dLat * dLat
      ∧ 65536 * dx.natAbs ≤ 2 * (dLon * q.cosine).natAbs + 32768
      ∧ 2 * (dLon * q.cosine).natAbs + 32768 < 65536 * (dx.natAbs + 1)
      ∧ 0 ≤ dx * (dLon * q.cosine)
      ∧ (st.latitude.natAbs ≤ 90000000 → q.latitude.natAbs ≤ 90000000 →
        -180000000 ≤ st.longitude → st.longitude < 180000000 →
        -180000000 ≤ q.longitude → q.longitude < 180000000 → 0 ≤ q.cosine → q.cosine ≤ 32767 →
          dLat.natAbs ≤ 180000000 ∧ -180000000 ≤ dLon ∧ dLon < 180000000
          ∧ dx.natAbs < 180000000 ∧ nearMeasure q st < 65000000000000000))
  ∧ (∀ (la lo : Int) (radius : Nat) (q : NearQuery), prepareNear la lo radius = some q →
    la.natAbs = 90000000 → q.cosine = 0)
  ∧ ∀ (q : NearQuery) (t : Table Station), Table.wf t →
    let r := scanStations q t
    let taken := t.filter fun e => decide (nearMeasure q e.2 ≤ q.radius * q.radius)
    r.matched = taken.length ∧ r.nearest.length = min 8 taken.length
    ∧ (∀ e ∈ r.nearest, ∃ st, (e.1, st) ∈ taken ∧ e.2 = nearMeasure q st)
    ∧ r.nearest.Pairwise (fun a b => a.2 < b.2 ∨ (a.2 = b.2 ∧ a.1 < b.1))
    ∧ (∀ x ∈ taken, (∀ e ∈ r.nearest, e.1 ≠ x.1) → ∀ e ∈ r.nearest,
        e.2 < nearMeasure q x.2 ∨ (e.2 = nearMeasure q x.2 ∧ e.1 < x.1))

/-! ## Occupations -/

/-- OPEN_OCCUPATION that passes the checks: the STAGED set is applied when the head has no OPEN
loop, the lowest FREE record is taken, the chain grows by it, a pending pulse-synchronised set is
dropped, and the engine is SETTLING with its deadline; no other record changes
(R48, R49, R50, R166). -/
def Obligations.OpeningStartsSettling : Prop :=
  ∀ (tag : Byte) (h : Head) (k n d : Nat) (st : Station) (now : TimeMs) (r : RateClass) (s : State),
    s.serves → k < s.partition.slots → d < 65536 → s.engines.get h = .idle →
    Table.get s.stations k = some st → s.clock = some now → (s.channels.get h).upRate = some r →
    Table.firstFree s.occupations s.partition.records = some n → st.chain.length < 16 →
      ∃ t : State,
        exec (.openOccupation tag (beBytes 1 h.code ++ beBytes 2 k ++ beBytes 2 d)) s = .next t
        ∧ t.link = .answered (responseFrame tag ⟨.done,
            beBytes 2 n ++ beBytes 2 (grantedDuration r d)
              ++ beBytes 2 (grantedDuration r d * r.perSecond)
              ++ beBytes 2 (t.calGen.get h).toNat
              ++ yesNo ((s.staged.get h).isSome && (s.openLoop h).isNone)⟩)
        ∧ (∃ o : Occupation, Table.get t.occupations n = some o
          ∧ o.station = k ∧ o.head = h ∧ o.state = .opened ∧ o.openedAt = now ∧ o.rate = r
          ∧ o.granted = grantedDuration r d ∧ o.target = grantedDuration r d * r.perSecond
          ∧ o.calGen = t.calGen.get h ∧ o.steps = [] ∧ o.included = false ∧ o.value = none)
        ∧ (∀ m, m ≠ n → Table.get t.occupations m = Table.get s.occupations m)
        ∧ Table.get t.stations k = some { st with chain := st.chain ++ [n] }
        ∧ (∀ j, j ≠ k → Table.get t.stations j = Table.get s.stations j)
        ∧ t.engines = s.engines.set h (.settling
            ⟨n, k, r, grantedDuration r d, grantedDuration r d * r.perSecond⟩ 0
            (now + 1000 * (t.active.get h).settlingTimeout))
        ∧ t.pulse = { s.pulse with pendingSet := none }
        ∧ t.clock = s.clock ∧ t.loops = s.loops ∧ t.revQueue = s.revQueue
        ∧ (∀ set, s.staged.get h = some set → s.openLoop h = none →
          t.active = s.active.set h set ∧ t.staged = s.staged.set h none
            ∧ t.calGen = s.calGen.set h (s.calGen.get h + 1) ∧ t.hasNotice .calibrationApplied)
        ∧ (s.staged.get h = none ∨ s.openLoop h ≠ none →
          t.active = s.active ∧ t.staged = s.staged ∧ t.calGen = s.calGen)

/-- The refusals of OPEN_OCCUPATION, in order: the first failing check gives the response, and a
refused request changes nothing (R49; what MISO shows of the request, log 5). -/
def Obligations.OpeningRefusedInOrder : Prop :=
  ∀ (tag code : Byte) (k d : Nat) (s : State), s.serves → k < 65536 → d < 65536 →
    (∀ h, (s.channels.get h).state = .live ∨ (s.channels.get h).state = .clamped →
      (s.channels.get h).rate ≠ none) →
    (3 < code.toNat → exec (.openOccupation tag (code :: (beBytes 2 k ++ beBytes 2 d))) s
      = .next (s.answeredAs s.statusByte tag ⟨.badField, []⟩))
    ∧ ∀ (h : Head) (c : ResponseCode),
      c = (if s.partition.slots ≤ k then .badField
        else if s.engines.get h ≠ .idle then .busy
        else if Table.get s.stations k = none then .notFound
        else if s.clock = none then .clockUnset
        else if (s.channels.get h).state = .absent ∨ (s.channels.get h).state = .lost then .headDown
        else if Table.firstFree s.occupations s.partition.records = none then .tableFull
        else if 16 ≤ ((Table.get s.stations k).map fun st => st.chain.length).getD 0 then .chainFull
        else .done) → c ≠ .done →
      exec (.openOccupation tag (beBytes 1 h.code ++ beBytes 2 k ++ beBytes 2 d)) s
        = .next (s.answeredAs s.statusByte tag ⟨c, []⟩)

/-- FORCE_INTEGRATE and SETTLE_COUNT_REACHED take an engine from SETTLING to INTEGRATING, its sums
at 0 and its cap twice the granted duration after the start (in a run HEAD_FRAME's own step does the
latter, log 7); FORCE_INTEGRATE is BAD_FIELD for a head number above 3 and WRONG_STATE outside SETTLING
(R47, R51, R52, R61). -/
def Obligations.IntegrationBegins : Prop :=
  (∀ (h : Head) (w : Session) (counter : Nat) (deadline : TimeMs) (s : State),
    s.engines.get h = .settling w counter deadline →
    (∀ (tag : Byte) (now : TimeMs), s.serves → s.clock = some now →
      exec (.forceIntegrate tag (beBytes 1 h.code)) s = .next
        ({ s with
            engines := s.engines.set h (.integrating w
              ⟨now, now + 2000 * w.granted, 0, 0, []⟩) }.answeredAs s.statusByte tag
          ⟨.done, beBytes 2 counter⟩))
    ∧ (∀ (x : Sample) (at_ : TimeMs), s.running = true →
      (s.activeSet h).settleCount ≤ counter → (s.channels.get h).lastSample = some x →
      x.time = some at_ →
        exec (.settleCountReached h) s = .next
          { s with
            engines := s.engines.set h (.integrating w
              ⟨at_, at_ + 2000 * w.granted, 0, 0, []⟩) }))
  ∧ (∀ (tag : Byte) (s : State), s.serves →
    (∀ code : Byte, 3 < code.toNat → s.refuses (.forceIntegrate tag [code]) tag .badField)
    ∧ ∀ h : Head, (s.engines.get h).code ≠ 1 →
      s.refuses (.forceIntegrate tag (beBytes 1 h.code)) tag .wrongState)

/-- Integration that ends by TARGET, CAP or STOP and passes its judgement goes to REDUCING with its
grade while steps are owed; the grade is that of the exact fractions 10% and 40%
(R59, R60, R61, R62). STOP's answer bytes are the model's layout (log 14); TARGET_REACHED as a command of
its own is what HEAD_FRAME's step does in a run (log 7). -/
def Obligations.EndedIntegrationIsJudged : Prop :=
  (∀ (h : Head) (w : Session) (g : Integration) (grade : Grade) (s : State),
    s.engines.get h = .integrating w g → g.owed ≠ [] →
    (s.running = true → w.target ≤ (s.countsOf w.occupation).accepted →
      judge .target (s.countsOf w.occupation) = some grade →
        exec (.targetReached h) s
          = .next { s with engines := s.engines.set h (.reducing w g .target grade) })
    ∧ (s.running = true → s.capDue h = true →
      w.target ≤ 2 * (s.countsOf w.occupation).accepted →
      judge .cap (s.countsOf w.occupation) = some grade →
        exec (.capDeadline h) s
          = .next { s with engines := s.engines.set h (.reducing w g .cap grade) })
    ∧ (∀ tag : Byte, s.serves → 30 ≤ (s.countsOf w.occupation).accepted →
      judge .stop (s.countsOf w.occupation) = some grade →
        exec (.stopOccupation tag (beBytes 1 h.code)) s = .next
          ({ s with engines := s.engines.set h (.reducing w g .stop grade) }.answeredAs
            s.statusByte tag ⟨.done, beBytes 2 (s.countsOf w.occupation).accepted ++ [1]⟩)))
  ∧ (∀ (e : Ending) (k : OccCounts),
    let r := k.clamped + k.thermal + k.tilt + k.offscale
    let n := k.accepted + r
    (judge e k = none ↔ 5 * r > 2 * n)
    ∧ (judge e k = some .c ↔ 5 * r ≤ 2 * n ∧ (e = .cap ∨ 10 * r > n))
    ∧ (judge e k = some .a ↔ e ≠ .cap ∧ 10 * r ≤ n ∧ k.extended = 0)
    ∧ (judge e k = some .b ↔ e ≠ .cap ∧ 10 * r ≤ n ∧ k.extended ≠ 0))

/-- CANCEL_OCCUPATION, SETTLING_DEADLINE, a CAP or STOP below its count and a NOISY end by TARGET, CAP or
STOP fail the occupation: record, notice, engine and the head's withdrawn tide request alone change. STOP and CANCEL
are BAD_FIELD for a head number above 3 and WRONG_STATE in the engine states they do not act on
(R47, R53, R60, R61, R62, R65, R66, R106; STOP's answer bytes log 14, TARGET_REACHED as a command
log 7). -/
def Obligations.FailureEndsTheOccupation : Prop :=
  (∀ (h : Head) (w : Session) (s : State),
    (∀ tag : Byte, s.serves → (s.engines.get h).session? = some w →
      ∃ t : State, s.failedTo t h w .cancelled
        ∧ exec (.cancelOccupation tag (beBytes 1 h.code)) s = .next (t.answeredAs s.statusByte tag
            ⟨.done, beBytes 2 w.occupation ++ beBytes 1 (s.engines.get h).code⟩))
    ∧ (∀ counter deadline, s.running = true → s.engines.get h = .settling w counter deadline →
      s.settlingDue h = true →
        ∃ t : State, s.failedTo t h w .unsettled ∧ exec (.settlingDeadline h) s = .next t)
    ∧ (∀ g, s.running = true → s.engines.get h = .integrating w g → s.capDue h = true →
      2 * (s.countsOf w.occupation).accepted < w.target →
        ∃ t : State, s.failedTo t h w .short ∧ exec (.capDeadline h) s = .next t)
    ∧ (∀ (tag : Byte) (g : Integration), s.serves → s.engines.get h = .integrating w g →
      (s.countsOf w.occupation).accepted < 30 →
        ∃ t : State, s.failedTo t h w .short
          ∧ exec (.stopOccupation tag (beBytes 1 h.code)) s = .next (t.answeredAs s.statusByte tag
              ⟨.done, beBytes 2 (s.countsOf w.occupation).accepted ++ [0]⟩))
    ∧ (∀ g, s.running = true → s.engines.get h = .integrating w g →
      w.target ≤ (s.countsOf w.occupation).accepted →
      judge .target (s.countsOf w.occupation) = none →
        ∃ t : State, s.failedTo t h w .noisy ∧ exec (.targetReached h) s = .next t)
    ∧ (∀ g, s.running = true → s.engines.get h = .integrating w g → s.capDue h = true →
      w.target ≤ 2 * (s.countsOf w.occupation).accepted →
      judge .cap (s.countsOf w.occupation) = none →
        ∃ t : State, s.failedTo t h w .noisy ∧ exec (.capDeadline h) s = .next t)
    ∧ (∀ (tag : Byte) (g : Integration), s.serves → s.engines.get h = .integrating w g →
      30 ≤ (s.countsOf w.occupation).accepted → judge .stop (s.countsOf w.occupation) = none →
        ∃ t : State, s.failedTo t h w .noisy
          ∧ exec (.stopOccupation tag (beBytes 1 h.code)) s = .next (t.answeredAs s.statusByte tag
              ⟨.done, beBytes 2 (s.countsOf w.occupation).accepted ++ [0]⟩)))
  ∧ (∀ (tag : Byte) (s : State), s.serves →
    (∀ code : Byte, 3 < code.toNat → s.refuses (.stopOccupation tag [code]) tag .badField
      ∧ s.refuses (.cancelOccupation tag [code]) tag .badField)
    ∧ ∀ h : Head,
      ((s.engines.get h).code ≠ 2 →
        s.refuses (.stopOccupation tag (beBytes 1 h.code)) tag .wrongState)
      ∧ (s.engines.get h = .idle →
        s.refuses (.cancelOccupation tag (beBytes 1 h.code)) tag .wrongState))

/-- An occupation with no step owed closes in the step that ends its integration, by TARGET (HEAD_FRAME
with the target's sample, or TARGET_REACHED, log 7), CAP or STOP (answer bytes log 14), and in REDUCING
with the result for its last owed step: the record is closed, handed to the Drift Unit and its items
queued in the order of R63, S̄, T̄, mid-time and V are formed, the tide-stale check is made, the engine
is IDLE and OCC_ENDED is set (R59, R60, R61, R63, R64, R84, R86, R87, R115). -/
def Obligations.OccupationClosesWithItsMeans : Prop :=
  (∀ (h : Head) (w : Session) (g : Integration) (grade : Grade) (o : Occupation) (s : State),
    s.running = true → s.engines.get h = .integrating w g → g.owed = [] →
    Table.get s.occupations w.occupation = some o →
    (w.target ≤ o.counts.accepted → judge .target o.counts = some grade →
      ∃ t : State, exec (.targetReached h) s = .next t ∧ s.closedTo t h w g grade)
    ∧ (s.capDue h = true → w.target ≤ 2 * o.counts.accepted → judge .cap o.counts = some grade →
      ∃ t : State, exec (.capDeadline h) s = .next t ∧ s.closedTo t h w g grade)
    ∧ (∀ tag : Byte, s.serves → 30 ≤ o.counts.accepted → judge .stop o.counts = some grade →
      ∃ t : State, s.closedTo t h w g grade
        ∧ exec (.stopOccupation tag (beBytes 1 h.code)) s = .next (t.answeredAs s.statusByte tag
            ⟨.done, beBytes 2 o.counts.accepted ++ [1]⟩)))
  ∧ (∀ (h : Head) (last : Byte) (x : Sample) (at_ : TimeMs) (w : Session) (g : Integration)
    (grade : Grade) (o : Occupation) (s u : State),
    s.running = true → s.handsOn h last x u → s.engines.get h = .integrating w g → g.owed = [] →
    x.rate = w.rate → x.verdict = .accepted → x.time = some at_ →
    Table.get u.occupations w.occupation = some o → (∃ y ∈ o.steps, y.index = at_ / 30000) →
    o.counts.accepted < 65535 → w.target ≤ o.counts.accepted + 1 →
    judge .target (o.counts.accept x.regime) = some grade →
      ∃ t : State, exec (.headFrame h last) s = .next t
        ∧ State.closedTo
            { u with
              occupations := Table.modify u.occupations w.occupation fun o =>
                { o with
                  counts := o.counts.accept x.regime
                  steps := addToSteps (at_ / 30000) o.steps } }
            t h w
            { g with
              readingSum := g.readingSum + sampleValue (s.activeSet h) x
              timeSum := g.timeSum + at_ } grade)
  ∧ (∀ (h : Head) (e : Evaluation) (w : Session) (g : Integration) (d : Ending) (grade : Grade)
    (o : Occupation) (s : State),
    s.running = true → s.tide.evaluation = some e → e.isVoid = false → e.source = .head h →
    s.engines.get h = .reducing w g d grade → e.request.target = w.occupation → g.owed ≠ [] →
    (∀ y ∈ g.owed, y.index = e.request.step) → Table.get s.occupations w.occupation = some o →
      ∃ t : State, exec .tideEvaluationComplete s = .next t.startEvaluation
        ∧ State.closedTo
            { s with
              tide := { s.tide with
                headSlots := s.tide.headSlots.set h .empty, evaluation := none }
              occupations := Table.modify s.occupations w.occupation fun o =>
                { o with
                  steps := deliverStep e.request.step
                    ⟨tideCorrection e.constituents e.request.instant e.request.latitude
                      e.request.longitude, e.request.coordGen, e.tableGen⟩ o.steps } }
            t h w g grade)
  ∧ (∀ (h : Head) (w : Session) (g : Integration) (grade : Grade) (o : Occupation) (s t : State),
    s.closedTo t h w g grade → Table.get s.occupations w.occupation = some o →
      (∃ o' : Occupation, Table.get t.occupations w.occupation = some o'
        ∧ o'.state = .closed ∧ o'.included = true ∧ o'.grade = some grade
        ∧ o'.readingMean = some (roundDiv g.readingSum o.counts.accepted)
        ∧ o'.tideMean = some (tideMeanOf o.steps o.counts.accepted)
        ∧ o'.midTime = some (roundDiv g.timeSum (o.counts.accepted * 1000)).toNat
        ∧ o'.value = some (o'.corrected - o'.drift.getD 0)
        ∧ o'.tideStale = s.staleAtClose o ∧ o'.driftFrozen = false
        ∧ o'.counts = o.counts ∧ o'.steps = o.steps ∧ o'.station = o.station)
      ∧ (s.staleAtClose o = true → t.redoOwed w.occupation)
      ∧ t.valueFollows o.station
      ∧ t.engines = s.engines.set h .idle ∧ t.hasNotice (.occEnded h)
      ∧ t.channels = s.channels ∧ t.active = s.active ∧ t.clock = s.clock ∧ t.link = s.link)

/-- The Drift Unit's four cases for an occupation just closed: it closes its head's OPEN loop at the
loop's base and opens the next; joins a loop based elsewhere, or is refused by a full list; opens a
loop at a BASE station with its D 0, or is refused by a full table; or takes no role
(R115 to R118). -/
def Obligations.DriftUnitTakesClosedOccupation : Prop :=
  ∀ (n : Nat) (o : Occupation) (s : State), Table.wf s.loops →
    Table.get s.occupations n = some o →
    (∀ k l, s.openLoop o.head = some (k, l) → l.base = o.station →
      Table.get (s.handOver n).loops k = some { l with closer := some n, state := .closing }
      ∧ ⟨.driftApply, k⟩ ∈ (s.handOver n).revQueue
      ∧ (Table.get (s.handOver n).occupations n).bind Occupation.driftLoop = some k
      ∧ (∀ k', Table.firstFree s.loops 32 = some k' →
        Table.get (s.handOver n).loops k' = some (Loop.fresh n o)
          ∧ (Table.get (s.handOver n).occupations n).bind Occupation.anchorsLoop = some k')
      ∧ (Table.firstFree s.loops 32 = none → (s.handOver n).hasNotice .loopRefused))
    ∧ (∀ k l, s.openLoop o.head = some (k, l) → l.base ≠ o.station → l.members.length < 64 →
      s.handOver n = { s with
        loops := Table.modify s.loops k fun l => { l with members := l.members ++ [n] }
        occupations := Table.modify s.occupations n fun o => { o with driftLoop := some k } })
    ∧ (∀ k l, s.openLoop o.head = some (k, l) → l.base ≠ o.station → 64 ≤ l.members.length →
      s.handOver n = { s with notices := s.notices ||| Notice.loopRefused.flag })
    ∧ (∀ k, s.openLoop o.head = none → s.roleOf o.station = some .base →
      Table.firstFree s.loops 32 = some k →
      s.handOver n = { s with
        loops := Table.put s.loops k (Loop.fresh n o)
        occupations := Table.modify s.occupations n fun o =>
          { o with anchorsLoop := some k, drift := some 0, value := some o.corrected } })
    ∧ (s.openLoop o.head = none → s.roleOf o.station = some .base →
      Table.firstFree s.loops 32 = none →
      s.handOver n = { s with notices := s.notices ||| Notice.loopRefused.flag })
    ∧ (s.openLoop o.head = none → s.roleOf o.station ≠ some .base → s.handOver n = s)

/-- EXCLUDE_OCCUPATION and INCLUDE_OCCUPATION write the included field of a CLOSED record, whether or
not it changes, and an idle Revision Engine forms the station's value anew in the same step, REVISION_IDLE
set (that it is the same step is the model's reading, log 12); a bad or FREE number and a record that is
not CLOSED refuse them (R47, R67, R136, R137, R144, R148). -/
def Obligations.IncludedFieldWritten : Prop :=
  (∀ (tag : Byte) (n : Nat) (o : Occupation) (st : Station) (b : Bool) (s : State), s.serves →
    n < s.partition.records → Table.get s.occupations n = some o → o.state = .closed →
    Table.get s.stations o.station = some st →
      ∃ t : State,
        exec (if b then .includeOccupation tag (beBytes 2 n)
          else .excludeOccupation tag (beBytes 2 n)) s = .next t
        ∧ t.link = .answered (responseFrame tag ⟨.done, yesNo o.included ++ yesNo b⟩)
        ∧ Table.get t.occupations n = some { o with included := b }
        ∧ (∀ m, m ≠ n → Table.get t.occupations m = Table.get s.occupations m)
        ∧ t.valueFollows o.station
        ∧ (s.revisionBusy = false →
          Table.get t.stations o.station
            = some (st.processed s.constants.spreadLimit (t.contributing st.chain))
          ∧ t.hasNotice .revisionIdle ∧ t.revisionBusy = false)
        ∧ t.loops = s.loops ∧ t.engines = s.engines ∧ t.channels = s.channels
        ∧ t.clock = s.clock)
  ∧ (∀ (tag : Byte) (n : Nat) (b : Bool) (s : State), s.serves → n < 65536 →
    let c : Instr := if b then .includeOccupation tag (beBytes 2 n)
      else .excludeOccupation tag (beBytes 2 n)
    s.refusesUnnamed c tag s.occupations s.partition.records n
      ∧ ∀ o, n < s.partition.records → Table.get s.occupations n = some o → o.state ≠ .closed →
        s.refuses c tag .wrongState)

/-- What a STATION_VALUE item writes from the contributing occupations: the state tells whether there are
any and whether each has its D (R146). The adopted value is the nearest integer to the weighted mean, the
spread is the largest difference of two values, a station is discordant beyond the limit, and value-stale
is cleared. -/
def Obligations.StationValueFormed : Prop :=
  ∀ (st : Station) (limit : Nat) (os : List Occupation),
    let st' := st.processed limit os
    (st'.state = .declared ↔ os = [])
    ∧ (st'.state = .provisional ↔ os ≠ [] ∧ ∃ o ∈ os, o.drift = none)
    ∧ (st'.state = .adopted ↔ os ≠ [] ∧ ∀ o ∈ os, o.drift ≠ none)
    ∧ st'.valueStale = false
    ∧ (os = [] → st'.adopted = none ∧ st'.spread = none ∧ st'.weightTotal = 0
      ∧ st'.discordant = false)
    ∧ (os ≠ [] → ∃ a d : Int, st'.adopted = some a ∧ st'.spread = some d
      ∧ ((∀ o ∈ os, 1 ≤ o.weight) →
        2 * ((weightSum os : Int) * a - weightedSum os) ≤ weightSum os
        ∧ 2 * (weightedSum os - (weightSum os : Int) * a) ≤ weightSum os)
      ∧ (∀ x ∈ os, ∀ y ∈ os, x.v - y.v ≤ d) ∧ (∃ x ∈ os, ∃ y ∈ os, x.v - y.v = d)
      ∧ (st'.discordant = true ↔ (limit : Int) < d))
    ∧ st'.weightTotal = weightSum os
    ∧ st'.name = st.name ∧ st'.role = st.role ∧ st'.latitude = st.latitude
    ∧ st'.longitude = st.longitude ∧ st'.coordGen = st.coordGen ∧ st'.chain = st.chain

/-- DELETE_OCCUPATION of a CLOSED or FAILED record frees it, takes it out of its chain and out of the
list of a loop it is a member of, abandons the loops a CLOSED one closes or opens and no other, leaves no
TIDE_REDO for it, and a CLOSED one's station has its value formed anew. The terms of the abandoned loops
are withdrawn from their other occupations, the stations of those whose D changed have their values formed
anew, and every other occupation is as it was. A bad or FREE number and an OPEN record refuse it
(R47, R68, R126, R129, R130). -/
def Obligations.DeletionFreesTheRecord : Prop :=
  (∀ (tag : Byte) (n : Nat) (o : Occupation) (st : Station) (s : State), s.serves →
    n < s.partition.records → Table.get s.occupations n = some o → o.state ≠ .opened →
    Table.get s.stations o.station = some st →
      ∃ t : State, exec (.deleteOccupation tag (beBytes 2 n)) s = .next t
        ∧ t.link = .answered (responseFrame tag ⟨.done, beBytes 2 (s.deleteAbandons n o)⟩)
        ∧ Table.get t.occupations n = none
        ∧ (Table.get t.stations o.station).map Station.chain
          = some (st.chain.filter fun m => m != n)
        ∧ ¬ t.redoOwed n
        ∧ (o.state = .closed → (∀ k ∈ s.loopsAbandonedWith n o, Table.get t.loops k = none)
          ∧ (∀ k, k ∉ s.loopsAbandonedWith n o → s.memberLoop n o ≠ some k →
            Table.get t.loops k = Table.get s.loops k)
          ∧ (∀ k l, k ∉ s.loopsAbandonedWith n o → s.memberLoop n o = some k →
            Table.get s.loops k = some l →
            Table.get t.loops k = some { l with members := l.members.filter fun m => m != n })
          ∧ (s.loopsAbandonedWith n o = [] →
            ∀ m, m ≠ n → Table.get t.occupations m = Table.get s.occupations m)
          ∧ (∀ k l m, k ∈ s.loopsAbandonedWith n o → Table.get s.loops k = some l → m ≠ n →
            (∀ k' l', k' ≠ k → k' ∈ s.loopsAbandonedWith n o → Table.get s.loops k' = some l' →
              m ∉ l'.occupants) →
            s.withdrawnFrom t l m)
          ∧ (∀ m, m ≠ n → (∀ k l, k ∈ s.loopsAbandonedWith n o → Table.get s.loops k = some l →
              m ∉ l.occupants) →
            Table.get t.occupations m = Table.get s.occupations m)
          ∧ s.changedTermsFollow t (fun m => m ≠ n)
          ∧ t.valueFollows o.station)
        ∧ (∀ c, o.state = .failed c → t.loops = s.loops
          ∧ ∀ m, m ≠ n → Table.get t.occupations m = Table.get s.occupations m)
        ∧ t.engines = s.engines ∧ t.channels = s.channels ∧ t.active = s.active
        ∧ t.clock = s.clock)
  ∧ (∀ (tag : Byte) (n : Nat) (s : State), s.serves → n < 65536 →
    s.refusesUnnamed (.deleteOccupation tag (beBytes 2 n)) tag s.occupations s.partition.records n
    ∧ ∀ o, n < s.partition.records → Table.get s.occupations n = some o → o.state = .opened →
      s.refuses (.deleteOccupation tag (beBytes 2 n)) tag .wrongState)
  ∧ (∀ (n k : Nat) (o : Occupation) (s : State),
    (s.memberLoop n o = some k ↔
      o.driftLoop = some k ∧ ∃ l, Table.get s.loops k = some l ∧ n ∈ l.members)
    ∧ (k ∈ s.loopsAbandonedWith n o ↔ ∃ l, Table.get s.loops k = some l
      ∧ ((o.driftLoop = some k ∧ l.closer = some n) ∨ (o.anchorsLoop = some k ∧ l.opener = n))))

/-! ## Loops -/

/-- ABANDON_LOOP frees the entry in any state of the loop, drops its DRIFT_APPLY, withdraws the terms
of its members and closer, touches no occupation outside it, and the station of each occupation whose D
changed has its value formed anew; a bad number and a free entry refuse it (R125, R126). -/
def Obligations.AbandonmentWithdrawsTerms : Prop :=
  (∀ (tag : Byte) (k : Nat) (l : Loop) (s : State), s.serves → k < 32 →
    Table.get s.loops k = some l →
      ∃ t : State, exec (.abandonLoop tag (beBytes 1 k)) s = .next t
        ∧ t.link = .answered (responseFrame tag ⟨.done,
            beBytes 1 l.state.code ++ beBytes 2 (s.abandonLoses k)⟩)
        ∧ Table.get t.loops k = none
        ∧ (∀ j, j ≠ k → Table.get t.loops j = Table.get s.loops j)
        ∧ ¬ t.applyOwed k
        ∧ (∀ m o, m ∈ l.members → some m ≠ l.closer → m ≠ l.opener →
          Table.get s.occupations m = some o →
          Table.get t.occupations m
            = some { o with driftLoop := none, drift := none, value := some o.corrected })
        ∧ (∀ m o, l.closer = some m → m ∉ l.members → m ≠ l.opener →
          Table.get s.occupations m = some o →
          Table.get t.occupations m
            = some { o with
                     driftLoop := none
                     drift := if o.anchorsLoop = none then none else some 0
                     value := some o.corrected })
        ∧ (∀ o, l.opener ∉ l.members → l.closer ≠ some l.opener →
          Table.get s.occupations l.opener = some o →
          Table.get t.occupations l.opener
            = some (if o.driftLoop = none ∧ o.drift = some 0 ∧ o.driftFrozen = false
                then { o with anchorsLoop := none, drift := none, value := some o.corrected }
                else { o with anchorsLoop := none }))
        ∧ (∀ m, m ∉ l.occupants → Table.get t.occupations m = Table.get s.occupations m)
        ∧ (∀ m o o', Table.get s.occupations m = some o → Table.get t.occupations m = some o' →
          o'.drift ≠ o.drift → t.valueFollows o.station)
        ∧ t.engines = s.engines ∧ t.channels = s.channels ∧ t.clock = s.clock)
  ∧ (∀ (tag : Byte) (k : Nat) (s : State), s.serves → k < 256 →
    s.refusesUnnamed (.abandonLoop tag (beBytes 1 k)) tag s.loops 32 k)

/-- RELEASE_LOOP of a CLOSED or SUSPECT loop frees its entry and freezes the terms of its members and
closer; no D and no V of any occupation changes, and nothing is queued; a bad number, a free entry and an
OPEN or CLOSING loop refuse it (R127, R128; the answer's layout and count log 14). -/
def Obligations.ReleaseFreezesTerms : Prop :=
  (∀ (tag : Byte) (k : Nat) (l : Loop) (s : State), s.serves → k < 32 →
    Table.get s.loops k = some l → (l.state = .closed ∨ l.state = .suspect) →
      ∃ t : State, exec (.releaseLoop tag (beBytes 1 k)) s = .next
          (t.answeredAs s.statusByte tag ⟨.done, beBytes 1 l.state.code
            ++ beSignedBytes 4 (l.rate.getD 0) ++ beBytes 2 (s.releaseFreezes l)⟩)
        ∧ t = { s with occupations := t.occupations, loops := Table.del s.loops k }
        ∧ (∀ m, (Table.get t.occupations m).map (fun o => (o.drift, o.value))
            = (Table.get s.occupations m).map fun o => (o.drift, o.value))
        ∧ (∀ m o, m ∈ l.members ∨ l.closer = some m → m ≠ l.opener →
          Table.get s.occupations m = some o →
          Table.get t.occupations m = some { o with driftLoop := none, driftFrozen := true })
        ∧ (∀ o, l.opener ∉ l.members → l.closer ≠ some l.opener →
          Table.get s.occupations l.opener = some o →
          Table.get t.occupations l.opener
            = some { o with
                     anchorsLoop := none
                     driftFrozen := o.driftFrozen
                       || (o.driftLoop.isNone && o.drift == some 0 && !o.driftFrozen) })
        ∧ (∀ m, m ∉ l.occupants → Table.get t.occupations m = Table.get s.occupations m))
  ∧ (∀ (tag : Byte) (k : Nat) (s : State), s.serves → k < 256 →
    s.refusesUnnamed (.releaseLoop tag (beBytes 1 k)) tag s.loops 32 k
    ∧ ∀ l, k < 32 → Table.get s.loops k = some l → (l.state = .opened ∨ l.state = .closing) →
      s.refuses (.releaseLoop tag (beBytes 1 k)) tag .wrongState)

/-- A completed drift application stores the limited rate and the state it gives, writes D and V of
every member still in the list and of the closer, has the values of their stations formed anew, and sets
the notice of its result; the stored rate never passes the limit, and a short interval is SUSPECT (R121, R122, R123, R124). -/
def Obligations.DriftApplicationWritesTerms : Prop :=
  (∀ (k walked c : Nat) (l : Loop) (oa ob : Occupation) (s : State), s.running = true →
    s.inFlight = some (.driftApply k walked) → Table.get s.loops k = some l →
    l.closer = some c → Table.get s.occupations l.opener = some oa →
    Table.get s.occupations c = some ob →
      ∃ (t : State) (r : Int) (x : LoopState), exec .driftApplyComplete s = .next t
        ∧ (r, x) = limitRate s.constants.driftLimit oa.mid ob.mid
            (roundDiv ((ob.corrected - oa.corrected) * 65536)
              (if oa.mid + 30 ≤ ob.mid then ob.mid - oa.mid else 30))
        ∧ Table.get t.loops k = some { l with rate := some r, state := x }
        ∧ (∀ m o, m ∈ l.members ∨ m = c → Table.get s.occupations m = some o →
          Table.get t.occupations m = some { o with
            drift := some (roundDiv (r * ((o.mid : Int) - oa.mid)) 65536), driftFrozen := false
            value := some (o.corrected - roundDiv (r * ((o.mid : Int) - oa.mid)) 65536) })
        ∧ (∀ m o, m ∈ l.members ∨ m = c → Table.get s.occupations m = some o →
          t.valueFollows o.station)
        ∧ (∀ m, m ∉ l.members → m ≠ c →
          Table.get t.occupations m = Table.get s.occupations m)
        ∧ (∀ j, j ≠ k → Table.get t.loops j = Table.get s.loops j)
        ∧ (x = .closed → t.hasNotice .loopClosed) ∧ (x = .suspect → t.hasNotice .loopSuspect)
        ∧ t.engines = s.engines ∧ t.channels = s.channels ∧ t.clock = s.clock ∧ t.link = s.link)
  ∧ (∀ (limit ta tb : Nat) (r : Int),
    ((limitRate limit ta tb r).1.natAbs ≤ limit)
    ∧ ((limitRate limit ta tb r).2 = .closed ↔ r.natAbs ≤ limit ∧ ta + 30 ≤ tb)
    ∧ ((limitRate limit ta tb r).2 = .suspect ↔ ¬ (r.natAbs ≤ limit ∧ ta + 30 ≤ tb))
    ∧ (r.natAbs ≤ limit → (limitRate limit ta tb r).1 = r))

/-! ## Heads -/

/-- HEAD_RESET (R40): a head number outside 0 to 3 is BAD_FIELD and changes nothing; otherwise the
channel is as at a start, an OPEN occupation fails HEAD_RESET, the head's tide slot is emptied, and
the answer is the engine's state before (R65, R106; what MISO shows of the request, log 5). -/
def Obligations.HeadResetClearsTheChannel : Prop :=
  ∀ (tag : Byte) (s : State), s.serves →
    (∀ code : Byte, 3 < code.toNat →
      exec (.headReset tag [code]) s = .next (s.answeredAs s.statusByte tag ⟨.badField, []⟩))
    ∧ (∀ h : Head, ∃ t : State,
      exec (.headReset tag (beBytes 1 h.code)) s = .next (t.answeredAs s.statusByte tag
        ⟨.done, beBytes 1 (s.engines.get h).code⟩)
      ∧ t.channels = s.channels.set h Channel.reset
      ∧ t.tide.headSlots.get h = .empty
      ∧ (∀ w, (s.engines.get h).session? = some w →
        ({ s with channels := s.channels.set h Channel.reset }).failedTo t h w .headReset)
      ∧ ((s.engines.get h).session? = none →
        t = { s with
              channels := s.channels.set h Channel.reset
              tide := (s.withdraw (.head h)).tide }))

/-- Fourteen characters that make a frame with a matching CRC-8, received in HUNTING with nothing
held, are one valid frame: what follows is `validFrame` on the channel that holds them
(R28, R30, R197). -/
def Obligations.FrameBytesMakeASample : Prop :=
  ∀ (h : Head) (body : List Byte) (s : State), body.length = 11 →
    (s.channels.get h).receiver = ⟨.hunting, []⟩ →
      let frame := [0xE5, 0x1B] ++ body ++ [crc8 body]
      frame.foldl (fun x b => x.receiveCharacter h b) s
        = ({ s with
            channels := s.channels.set h
              { s.channels.get h with
                receiver := ⟨.collecting, frame⟩
                lastCharacter := some s.timeBase } }).validFrame h frame

/-- HEAD_FRAME that completes a valid frame: the channel records sequence, rate, time and sample, counts
the gap of a LIVE or CLAMPED head and the verdict, follows the clamp flag and waits for the next frame;
the gap is counted for an integrating engine, nothing else differs, and then the engine has the sample
(R30 to R39, R55). -/
def Obligations.ValidFrameUpdatesChannel : Prop :=
  ∀ (h : Head) (held : List Byte) (last : Byte) (s : State), s.running = true →
    (s.channels.get h).receiver = ⟨.collecting, held⟩ → held.length = 13 →
    frameValid (held ++ [last]) = true →
      ∃ (u : State) (c : Channel) (x : Sample) (m : Nat),
        exec (.headFrame h last) s = .next (u.engineSample h x)
        ∧ s.handsOn h last x u
        ∧ x = sampleOf (s.activeSet h) s.now (held ++ [last])
        ∧ u = { s with
                channels := s.channels.set h c
                occupations := match s.engines.get h with
                  | .integrating w _ => Table.modify s.occupations w.occupation fun o =>
                      { o with counts := { o.counts with gap := min (o.counts.gap + m) 65535 } }
                  | _ => s.occupations }
        ∧ c.state = (if x.clampFlag then .clamped else .live)
        ∧ c.rate = some x.rate ∧ c.lastSequence = some (held.getD 3 0)
        ∧ c.lastValid = some s.timeBase ∧ c.lastCharacter = some s.timeBase
        ∧ c.lastSample = some x ∧ c.receiver = ⟨.hunting, []⟩
        ∧ c.corrupt = (s.channels.get h).corrupt
        ∧ (∀ l, (s.channels.get h).lastSequence = some l →
          ((s.channels.get h).state = .live ∨ (s.channels.get h).state = .clamped) →
          m = (held.getD 3 0 - l - 1).toNat)
        ∧ ((s.channels.get h).state = .absent ∨ (s.channels.get h).state = .lost → m = 0)
        ∧ c.gap = min ((s.channels.get h).gap + m) 4294967295
        ∧ c.accepted = (if x.verdict = .accepted
          then min ((s.channels.get h).accepted + 1) 4294967295 else (s.channels.get h).accepted)
        ∧ c.rejectedClamped = (if x.verdict = .clamped
          then min ((s.channels.get h).rejectedClamped + 1) 4294967295
          else (s.channels.get h).rejectedClamped)
        ∧ c.rejectedThermal = (if x.verdict = .thermal
          then min ((s.channels.get h).rejectedThermal + 1) 4294967295
          else (s.channels.get h).rejectedThermal)
        ∧ c.rejectedTilt = (if x.verdict = .tilt
          then min ((s.channels.get h).rejectedTilt + 1) 4294967295
          else (s.channels.get h).rejectedTilt)
        ∧ c.rejectedOffscale = (if x.verdict = .offscale
          then min ((s.channels.get h).rejectedOffscale + 1) 4294967295
          else (s.channels.get h).rejectedOffscale)

/-- A character that completes no frame is searched for the sync pair or held; a framing error, a
2 ms pause and a wrong CRC-8 each break a frame off and count it corrupt, without touching the
other items of the channel, and an integrating engine counts the corrupt frame in its record (for a
framing error and a pause the model's reading, log 17) (R27, R28, R29, R30, R55). -/
def Obligations.CharactersAndBrokenFrames : Prop :=
  ∀ (h : Head) (s : State), s.running = true →
    let c := s.channels.get h
    (∀ b : Byte, c.receiver.phase = .hunting →
      exec (.headLineCharacter h b) s = .next
        { s with
          channels := s.channels.set h
            { c with
              receiver :=
                if c.receiver.held = [0xE5] ∧ b = 0x1B then ⟨.collecting, [0xE5, 0x1B]⟩
                else if b = 0xE5 then ⟨.hunting, [0xE5]⟩ else ⟨.hunting, []⟩
              lastCharacter := some s.timeBase } })
    ∧ (∀ b : Byte, c.receiver.phase = .collecting → c.receiver.held.length < 13 →
      exec (.headLineCharacter h b) s = .next
        { s with
          channels := s.channels.set h
            { c with
              receiver := ⟨.collecting, c.receiver.held ++ [b]⟩
              lastCharacter := some s.timeBase } })
    ∧ (c.receiver.phase = .hunting →
      exec (.characterFramingError h) s = .next
        { s with channels := s.channels.set h { c with receiver := ⟨.hunting, []⟩ } })
    ∧ (c.receiver.phase = .collecting →
      exec (.characterFramingError h) s = .next (State.engineCorrupt
        { s with
          channels := s.channels.set h
            { c with receiver := ⟨.hunting, []⟩, corrupt := min (c.corrupt + 1) 4294967295 } } h))
    ∧ (s.pauseDue h = true →
      exec (.frameBrokenOff h) s = .next (State.engineCorrupt
        { s with
          channels := s.channels.set h
            { c with receiver := ⟨.hunting, []⟩, corrupt := min (c.corrupt + 1) 4294967295 } } h))
    ∧ (∀ b : Byte, c.receiver.phase = .collecting → c.receiver.held.length = 13 →
      frameValid (c.receiver.held ++ [b]) = false →
      exec (.headFrame h b) s = .next (State.engineCorrupt
        { s with
          channels := s.channels.set h
            { c with
              receiver := rescan (c.receiver.held ++ [b])
              corrupt := min (c.corrupt + 1) 4294967295
              lastCharacter := some s.timeBase } } h))
    ∧ (∀ w g, s.engines.get h = .integrating w g →
      s.engineCorrupt h = { s with
        occupations := Table.modify s.occupations w.occupation fun o =>
          { o with counts := { o.counts with corrupt := min (o.counts.corrupt + 1) 65535 } } })
    ∧ ((s.engines.get h).code ≠ 2 → s.engineCorrupt h = s)

/-- A head whose timeout has passed becomes LOST with its notice, its engine's settle counter returns
to 0 and integration holds; a HEAD_TIMEOUT before the timeout, and in ABSENT and LOST, changes nothing
(the model's reading, log 3) (R33, R57). -/
def Obligations.HeadTimeoutLosesTheHead : Prop :=
  ∀ (h : Head) (s : State), s.running = true →
    (∀ v, ((s.channels.get h).state = .live ∨ (s.channels.get h).state = .clamped) →
      (s.channels.get h).lastValid = some v →
      v + 100 * (s.activeSet h).headTimeout ≤ s.timeBase →
      ∃ t : State, exec (.headTimeout h) s = .next t
        ∧ t = { s with
                channels := s.channels.set h { s.channels.get h with state := .lost }
                notices := s.notices ||| (Notice.headLost h).flag, engines := t.engines }
        ∧ (∀ w n d, s.engines.get h = .settling w n d →
          t.engines = s.engines.set h (.settling w 0 d))
        ∧ ((∀ w n d, s.engines.get h ≠ .settling w n d) → t.engines = s.engines))
    ∧ (∀ v, (s.channels.get h).lastValid = some v →
      s.timeBase < v + 100 * (s.activeSet h).headTimeout → exec (.headTimeout h) s = .next s)
    ∧ ((s.channels.get h).state = .absent ∨ (s.channels.get h).state = .lost →
      exec (.headTimeout h) s = .next s)

/-- What a sample does at its engine: another rate class fails the occupation; in SETTLING the counter
rises or returns to 0, and at the settle count integration begins at the sample's time; in INTEGRATING a
rejected sample is counted by its verdict, and an accepted one is summed, counted (an EXTENDED one in both
counts), entered in its tide step, and a new step is owed and requested when the head's slot is EMPTY; at
the target the integration is judged, and goes to REDUCING while a step is owed
(R51, R54, R55, R56, R58, R59, R62, R102). -/
def Obligations.SampleReachesTheEngine : Prop :=
  ∀ (h : Head) (x : Sample) (s : State),
    (∀ w, (s.engines.get h).session? = some w → (s.engines.get h).code ≠ 3 → x.rate ≠ w.rate →
      s.failedTo (s.engineSample h x) h w .rateChange)
    ∧ (∀ w n d, s.engines.get h = .settling w n d → x.rate = w.rate →
      let n' := if x.verdict = .accepted ∧ x.ux.natAbs ≤ (s.activeSet h).settleWindow
        ∧ x.uy.natAbs ≤ (s.activeSet h).settleWindow then n + 1 else 0
      (n' < (s.activeSet h).settleCount →
        s.engineSample h x = { s with engines := s.engines.set h (.settling w n' d) })
      ∧ (∀ at_, (s.activeSet h).settleCount ≤ n' → (s.channels.get h).lastSample = some x →
        x.time = some at_ →
        s.engineSample h x = { s with
          engines := s.engines.set h (.integrating w ⟨at_, at_ + 2000 * w.granted, 0, 0, []⟩) }))
    ∧ (∀ w g, s.engines.get h = .integrating w g → x.rate = w.rate → x.verdict ≠ .accepted →
      s.engineSample h x = { s with
        occupations := Table.modify s.occupations w.occupation fun o =>
          { o with counts := { o.counts with
              clamped := if x.verdict = .clamped then min (o.counts.clamped + 1) 65535
                else o.counts.clamped
              thermal := if x.verdict = .thermal then min (o.counts.thermal + 1) 65535
                else o.counts.thermal
              tilt := if x.verdict = .tilt then min (o.counts.tilt + 1) 65535
                else o.counts.tilt
              offscale := if x.verdict = .offscale then min (o.counts.offscale + 1) 65535
                else o.counts.offscale } } })
    ∧ (∀ w g o at_, s.engines.get h = .integrating w g → x.rate = w.rate →
      x.verdict = .accepted → x.time = some at_ →
      Table.get s.occupations w.occupation = some o →
      let k := at_ / 30000
      let counted := fun o : Occupation => { o with
        counts := { o.counts with
          accepted := min (o.counts.accepted + 1) 65535
          extended := if x.regime = .extended then min (o.counts.extended + 1) 65535
            else o.counts.extended }
        steps := addToSteps k o.steps }
      let u := State.placeOwed
        { s with
          occupations := Table.modify s.occupations w.occupation counted
          engines := s.engines.set h (.integrating w { g with
            readingSum := g.readingSum + sampleValue (s.activeSet h) x
            timeSum := g.timeSum + at_
            owed := if o.steps.any (fun y => y.index == k) then g.owed
              else g.owed ++ [⟨k, false⟩] }) } h
      (min (o.counts.accepted + 1) 65535 < w.target → s.engineSample h x = u)
      ∧ (w.target ≤ min (o.counts.accepted + 1) 65535 →
        (judge .target (counted o).counts = none →
          u.failedTo (s.engineSample h x) h w .noisy)
        ∧ ∀ grade g', judge .target (counted o).counts = some grade →
          u.engines.get h = .integrating w g' → g'.owed ≠ [] →
          s.engineSample h x
            = { u with engines := u.engines.set h (.reducing w g' .target grade) }))
    ∧ (∀ w g before k after st, (s.engines.get h).integration? = some (w, g) →
      g.owed = before ++ ⟨k, false⟩ :: after → (∀ y ∈ before, y.requested = true) →
      s.tide.headSlots.get h = .empty → Table.get s.stations w.station = some st →
      s.placeOwed h = State.placeRequest
        { s with
          engines := s.engines.set h
            ((s.engines.get h).withOwed (before ++ ⟨k, true⟩ :: after)) }
        (.head h) ⟨w.occupation, k, 30 * k + 15, st.latitude, st.longitude, st.coordGen⟩)
    ∧ (s.tide.headSlots.get h ≠ .empty → s.placeOwed h = s)
    ∧ (∀ w g, (s.engines.get h).integration? = some (w, g) → (∀ y ∈ g.owed, y.requested = true) →
      s.placeOwed h = s)

/-! ## Tides and coefficients -/

/-- TIDE_EVALUATION_COMPLETE empties the slot and delivers: nothing when it is void; to an integrating or
reducing head the step it owes, after which the head places its next request (the last one of a reducing
head closes the occupation, OccupationClosesWithItsMeans); to a TIDE_REDO the step it awaits, after which
it requests the next or completes; any other result is discarded. The source goes before the free
engine's choice (log 13), which takes the earliest head request or else the Revision Engine's (R56, R102,
R103, R104, R105, R106, R138, R139, R141). -/
def Obligations.EvaluationDeliversItsStep : Prop :=
  (∀ (e : Evaluation) (s : State), s.running = true → s.tide.evaluation = some e →
    let v : TideValue := ⟨tideCorrection e.constituents e.request.instant e.request.latitude
      e.request.longitude, e.request.coordGen, e.tableGen⟩
    (e.isVoid = true → exec .tideEvaluationComplete s = .next
      (State.startEvaluation { s with tide := { s.tide with evaluation := none } }))
    ∧ (∀ h : Head, e.isVoid = false → e.source = .head h →
      let emptied := { s with tide := { s.tide with
        headSlots := s.tide.headSlots.set h .empty, evaluation := none } }
      (∀ w g, (s.engines.get h).integration? = some (w, g) → e.request.target = w.occupation →
        (∃ y ∈ g.owed, y.index = e.request.step) →
        ((s.engines.get h).code = 2 ∨ ∃ y ∈ g.owed, y.index ≠ e.request.step) →
        exec .tideEvaluationComplete s = .next (State.startEvaluation (State.placeOwed
          { emptied with
            occupations := Table.modify s.occupations w.occupation fun o => { o with
              steps := o.steps.map fun k =>
                if k.index = e.request.step then { k with value := some v } else k }
            engines := s.engines.set h ((s.engines.get h).withOwed
              (g.owed.filter fun y => y.index != e.request.step)) } h)))
      ∧ (∀ w g, (s.engines.get h).integration? = some (w, g) →
        (e.request.target ≠ w.occupation ∨ ∀ y ∈ g.owed, y.index ≠ e.request.step) →
        exec .tideEvaluationComplete s = .next (emptied.placeOwed h).startEvaluation)
      ∧ ((s.engines.get h).integration? = none →
        exec .tideEvaluationComplete s = .next emptied.startEvaluation))
    ∧ (e.isVoid = false → e.source = .revision →
      let emptied := { s with tide := { s.tide with revisionSlot := .empty, evaluation := none } }
      (∀ n held k k' ks, s.inFlight = some (.tideRedo n held (k :: k' :: ks)) →
        e.request.target = n → e.request.step = k →
        exec .tideEvaluationComplete s = .next (State.startEvaluation (State.requestRedoStep
          { emptied with inFlight := some (.tideRedo n (held ++ [⟨k, v⟩]) (k' :: ks)) })))
      ∧ (∀ n held k o, s.inFlight = some (.tideRedo n held [k]) → e.request.target = n →
        e.request.step = k → Table.get s.occupations n = some o →
        ∃ t : State, exec .tideEvaluationComplete s = .next t
          ∧ (∃ (o' : Occupation) (mean : Int), Table.get t.occupations n = some o'
            ∧ o' = { o with
                steps := o.steps.map (TideStep.redone (held ++ [⟨k, v⟩]))
                tideMean := some mean, tideStale := false
                value := some (o.readingMean.getD 0 + mean - o.drift.getD 0) }
            ∧ mean = tideMeanOf o'.steps o.counts.accepted)
          ∧ (∀ m, m ≠ n → Table.get t.occupations m = Table.get s.occupations m)
          ∧ (∀ j l, Table.get s.loops j = some l → (l.state = .closed ∨ l.state = .suspect) →
            ((o.driftLoop = some j ∧ l.closer = some n) ∨ o.anchorsLoop = some j) →
            Table.get t.loops j = some { l with state := .closing } ∧ t.applyOwed j)
          ∧ (∀ j l, Table.get s.loops j = some l → (l.state = .opened ∨ l.state = .closing
              ∨ (¬ (o.driftLoop = some j ∧ l.closer = some n) ∧ o.anchorsLoop ≠ some j)) →
            Table.get t.loops j = some l)
          ∧ t.valueFollows o.station
          ∧ t.engines = s.engines ∧ t.channels = s.channels ∧ t.constituents = s.constituents
          ∧ t.tableGen = s.tableGen ∧ t.clock = s.clock ∧ t.link = s.link)
      ∧ ((∀ n held k ks, s.inFlight = some (.tideRedo n held (k :: ks)) →
          e.request.target ≠ n ∨ e.request.step ≠ k) →
        exec .tideEvaluationComplete s = .next emptied.startEvaluation)))
  ∧ (∀ s : State,
    (s.tide.evaluation ≠ none → s.startEvaluation = s)
    ∧ (∀ src r, s.tide.evaluation = none →
      ((∃ h before after, src = .head h ∧ s.tide.placed = before ++ .head h :: after
          ∧ s.tide.headSlots.get h = .waiting r
          ∧ ∀ h', .head h' ∈ before → ∀ r', s.tide.headSlots.get h' ≠ .waiting r')
        ∨ (src = .revision ∧ s.tide.revisionSlot = .waiting r
          ∧ ∀ h', .head h' ∈ s.tide.placed → ∀ r', s.tide.headSlots.get h' ≠ .waiting r')) →
      s.startEvaluation = { s with tide := { s.tide.setSlot src (.evaluating r) with
        placed := s.tide.placed.filter fun y => y != src
        evaluation := some ⟨src, r, s.constituents, s.tableGen, false⟩ } })
    ∧ ((∀ r, s.tide.revisionSlot ≠ .waiting r) →
      (∀ h, .head h ∈ s.tide.placed → ∀ r, s.tide.headSlots.get h ≠ .waiting r) →
      s.startEvaluation = s)
    ∧ (∀ src r, s.tide.slot src = .empty →
      s.placeRequest src r = State.startEvaluation { s with tide :=
        { s.tide.setSlot src (.waiting r) with placed := s.tide.placed ++ [src] } })
    ∧ (∀ src r, s.tide.slot src ≠ .empty → s.placeRequest src r = s)
    ∧ (∀ n held k ks o st, s.inFlight = some (.tideRedo n held (k :: ks)) →
      Table.get s.occupations n = some o → Table.get s.stations o.station = some st →
      s.requestRedoStep = s.placeRequest .revision
        ⟨n, k, 30 * k + 15, st.latitude, st.longitude, st.coordGen⟩)
    ∧ (∀ src, s.tide.slot src = .empty → s.withdraw src = s)
    ∧ (∀ src r, s.tide.slot src = .waiting r →
      s.withdraw src = { s with tide := { s.tide.setSlot src .empty with
        placed := s.tide.placed.filter fun y => y != src } })
    ∧ (∀ src r, s.tide.slot src = .evaluating r →
      s.withdraw src = { s with tide := { s.tide.setSlot src .empty with
        evaluation := s.tide.evaluation.map fun e => { e with isVoid := true } } }))

/-- Every tide attraction has magnitude at most Σ|A| × δ / 16,384, rounded up, over the enabled
constituents; that is 3,296 nm/s² for the default table, and 196,579 nm/s² for twelve entries at
their limits (R101). -/
def Obligations.TideAttractionBounded : Prop :=
  (∀ (cs : List Constituent) (instant : Nat) (latitude longitude : Int),
    (tideAttraction cs instant latitude longitude).natAbs ≤ (amplitudeSum cs + 16383) / 16384)
  ∧ (amplitudeSum defaultConstituents + 16383) / 16384 = 3296
  ∧ (∀ cs : List Constituent, constituentsInRange cs →
      (amplitudeSum cs + 16383) / 16384 ≤ 196579)

/-- WRITE_CONSTITUENT replaces the entry by the clamped operands, raises the table generation by 1,
marks every CLOSED occupation tide-stale, and a TIDE_REDO is owed for each; an evaluation in flight
keeps the entries it copied; an index above 11 and a species above 2 are BAD_FIELD and change nothing
(R92, R104, R108, R109; the answer's layout log 14). -/
def Obligations.ConstituentWriteMarksSurvey : Prop :=
  (∀ (tag : Byte) (p : List Byte) (species : Species) (s : State), s.serves → p.length = 17 →
    (p.getD 0 0).toNat ≤ 11 → Species.ofCode (p.getD 2 0) = some species →
    Table.wf s.occupations →
      ∃ (t : State) (c : Constituent), exec (.writeConstituent tag p) s = .next t
        ∧ c = { enabled := p.getD 1 0 != 0, species := species, speed := fieldNat 3 6 p
                v0 := fieldNat 9 4 p, amplitude := max (-8191) (min 8191 (fieldInt 13 2 p))
                delta := min 32767 (fieldNat 15 2 p) }
        ∧ t.link = .answered (responseFrame tag ⟨.done, constituentBytes c
            ++ beBytes 2 t.tableGen.toNat ++ beBytes 2 s.allClosed.length⟩)
        ∧ t.constituents = s.constituents.set (p.getD 0 0).toNat c
        ∧ t.tableGen = s.tableGen + 1
        ∧ (∀ n o, Table.get s.occupations n = some o → o.state = .closed →
          Table.get t.occupations n = some { o with tideStale := true } ∧ t.redoOwed n)
        ∧ (∀ n o, Table.get s.occupations n = some o → o.state ≠ .closed →
          Table.get t.occupations n = some o)
        ∧ t.loops = s.loops ∧ t.engines = s.engines ∧ t.channels = s.channels
        ∧ t.active = s.active ∧ t.constants = s.constants ∧ t.clock = s.clock
        ∧ (∀ e, s.tide.evaluation = some e → ∃ e', t.tide.evaluation = some e'
          ∧ e'.constituents = e.constituents ∧ e'.tableGen = e.tableGen
          ∧ e'.request = e.request))
  ∧ (∀ (tag : Byte) (p : List Byte) (s : State), s.serves → p.length = 17 →
    (11 < (p.getD 0 0).toNat ∨ 2 < (p.getD 2 0).toNat) →
      s.refuses (.writeConstituent tag p) tag .badField)

/-- SET_CONSTANTS writes the constants carried, clamped, and no other; a carried drift limit makes
every CLOSED or SUSPECT loop CLOSING with its DRIFT_APPLY owed, and no other loop changes; a carried
spread limit has the value of every station formed anew; the answer is the constants and the numbers of
loops and stations, every non-FREE station counted (layout and that count log 14)
(R120, R170, R171). -/
def Obligations.ConstantsWrittenAndWorkQueued : Prop :=
  ∀ (tag : Byte) (p : List Byte) (s : State), s.serves → p.length = 11 → Table.wf s.loops →
    let mask := p.getD 0 0
    ∃ t : State, exec (.setConstants tag p) s = .next t
      ∧ t.constants =
        { driftLimit := if mask.getLsbD 0 then max 1 (min 655360 (fieldNat 1 4 p))
            else s.constants.driftLimit
          spreadLimit := if mask.getLsbD 1 then max 1 (min 100000 (fieldNat 5 4 p))
            else s.constants.spreadLimit
          pulseTolerance := if mask.getLsbD 2 then max 1 (min 200 (fieldNat 9 2 p))
            else s.constants.pulseTolerance }
      ∧ (∀ k l, Table.get s.loops k = some l → mask.getLsbD 0 = true →
        (l.state = .closed ∨ l.state = .suspect) →
        Table.get t.loops k = some { l with state := .closing } ∧ t.applyOwed k)
      ∧ (∀ k l, Table.get s.loops k = some l →
        (mask.getLsbD 0 = false ∨ l.state = .opened ∨ l.state = .closing) →
        Table.get t.loops k = some l)
      ∧ (mask.getLsbD 1 = true → ∀ x st, Table.get s.stations x = some st → t.valueFollows x)
      ∧ t.link = .answered (responseFrame tag ⟨.done, beBytes 4 t.constants.driftLimit
          ++ beBytes 4 t.constants.spreadLimit ++ beBytes 2 t.constants.pulseTolerance
          ++ beBytes 2 (if mask.getLsbD 0 then (s.loops.filter fun e => e.2.applied).length else 0)
          ++ beBytes 2 (if mask.getLsbD 1 then s.stations.length else 0)⟩)
      ∧ (mask.getLsbD 0 = false → mask.getLsbD 1 = false → s.revQueue = [] →
        t.revQueue = [] ∧ t.stations = s.stations ∧ t.inFlight = s.inFlight)
      ∧ t.occupations = s.occupations ∧ t.engines = s.engines ∧ t.channels = s.channels
      ∧ t.active = s.active ∧ t.constituents = s.constituents ∧ t.clock = s.clock

/-- A set within the ranges of R163 is carried by a STAGE_CALIBRATION payload without loss, becomes
the head's STAGED set, and changes nothing else; whatever a payload carries, what is staged is
within those ranges; a short payload, a head above 3, a breakpoint count outside 2 to 24 or unlike the
payload's length, and counts that do not rise are BAD_FIELD and change nothing (R163, R164, R165; the
answer's layout log 14). -/
def Obligations.StagedSetRoundTrip : Prop :=
  (∀ (tag : Byte) (h : Head) (set : CalibrationSet), set.inRange →
    stageOperands (stagePayload h set) = some (h, set)
    ∧ ∀ s : State, s.serves →
      exec (.stageCalibration tag (stagePayload h set)) s = .next
        ({ s with staged := s.staged.set h (some set) }.answeredAs s.statusByte tag
          ⟨.done, calibrationBytes set ++ yesNo (s.staged.get h).isSome
            ++ yesNo (s.openLoop h).isSome⟩))
  ∧ (∀ (p : List Byte) (h : Head) (set : CalibrationSet),
    stageOperands p = some (h, set) → set.inRange)
  ∧ (∀ (tag : Byte) (p : List Byte) (s : State), s.serves → p.length ≤ 512 →
    let n := (p.getD 28 0).toNat
    (p.length < 29 ∨ 3 < (p.getD 0 0).toNat ∨ n < 2 ∨ 24 < n ∨ p.length ≠ 29 + 7 * n
      ∨ ∃ i, i + 1 < n ∧ fieldNat (29 + 7 * (i + 1)) 3 p ≤ fieldNat (29 + 7 * i) 3 p) →
      s.refuses (.stageCalibration tag p) tag .badField)

/-! ## Time -/

/-- SET_TIME (R155): BAD_FIELD above 999 ms, then BUSY while an occupation is OPEN, each changing
nothing; otherwise the time is set, the clock runs, a pending set is dropped, and the answer gives
the time set, the time replaced and whether a set was dropped. What MISO shows of the request is
log 5. -/
def Obligations.SetTimeSetsTheClock : Prop :=
  ∀ (tag : Byte) (sec ms : Nat) (s : State), s.serves → sec ≤ 4294967295 → ms < 65536 →
    (999 < ms → exec (.setTime tag (beBytes 4 sec ++ beBytes 2 ms)) s
      = .next (s.answeredAs s.statusByte tag ⟨.badField, []⟩))
    ∧ (ms ≤ 999 → s.anyOpen = true → exec (.setTime tag (beBytes 4 sec ++ beBytes 2 ms)) s
      = .next (s.answeredAs s.statusByte tag ⟨.busy, []⟩))
    ∧ (ms ≤ 999 → s.anyOpen = false → exec (.setTime tag (beBytes 4 sec ++ beBytes 2 ms)) s
      = .next ({ s with
          clock := some (1000 * sec + ms)
          pulse := { s.pulse with pendingSet := none } }.answeredAs s.statusByte tag
        ⟨.done, beBytes 4 sec ++ beBytes 2 ms ++ optionalTime s.clock
          ++ yesNo s.pulse.pendingSet.isSome⟩))

/-- SYNC_TO_PULSE (R156) is BUSY while an occupation is OPEN, and otherwise arms its second, the
answer giving the pulse state and whether an earlier set was replaced. -/
def Obligations.SyncToPulseArms : Prop :=
  ∀ (tag : Byte) (sec : Nat) (s : State), s.serves → sec ≤ 4294967295 →
    (s.anyOpen = true → exec (.syncToPulse tag (beBytes 4 sec)) s
      = .next (s.answeredAs s.statusByte tag ⟨.busy, []⟩))
    ∧ (s.anyOpen = false → exec (.syncToPulse tag (beBytes 4 sec)) s
      = .next ({ s with pulse := { s.pulse with pendingSet := some sec } }.answeredAs
          s.statusByte tag ⟨.done, yesNo s.pulse.pulsing ++ yesNo s.pulse.pendingSet.isSome⟩))

/-- TIME_PULSE, PULSE_LOSS and CLOCK_HOLD_AT_MAX: an edge within 900 ms of an accepted pulse changes
nothing; an accepted one measures the offset, applies a pending set or else judges the offset; 2.5 s
without one is a loss; the clock holds at its largest value. A PULSE_LOSS that is not due, and a
CLOCK_HOLD_AT_MAX below the largest value, leave the state as it is (the model's reading, log 3)
(R153, R157, R158). -/
def Obligations.PulsesMeasuredAndLost : Prop :=
  ∀ s : State, s.running = true → s.startup = false →
    (∀ v, s.pulse.lastPulse = some v → s.timeBase < v + 900 → exec .timePulse s = .next s)
    ∧ ((∀ v, s.pulse.lastPulse = some v → v + 900 ≤ s.timeBase) →
      (∀ sec, s.pulse.pendingSet = some sec → ∃ t : State, exec .timePulse s = .next t
        ∧ t = { s with clock := some (1000 * sec), pulse := t.pulse }
        ∧ t.pulse.pulsing = true ∧ t.pulse.lastPulse = some s.timeBase
        ∧ t.pulse.pendingSet = none
        ∧ (s.clock = none → t.pulse.offset = s.pulse.offset)
        ∧ (∀ x, s.clock = some x → ∃ f : Int, t.pulse.offset = some f ∧ -500 ≤ f ∧ f ≤ 499
          ∧ (f - x) % 1000 = 0))
      ∧ (∀ x, s.pulse.pendingSet = none → s.clock = some x → ∃ (t : State) (f : Int),
        exec .timePulse s = .next t ∧ -500 ≤ f ∧ f ≤ 499 ∧ (f - x) % 1000 = 0
        ∧ t = { s with
                pulse := { pulsing := true, lastPulse := some s.timeBase, offset := some f
                           pendingSet := none }
                notices := if s.constants.pulseTolerance < f.natAbs
                  then s.notices ||| Notice.pulseOffset.flag else s.notices })
      ∧ (s.pulse.pendingSet = none → s.clock = none → exec .timePulse s = .next
        { s with pulse := { s.pulse with pulsing := true, lastPulse := some s.timeBase } }))
    ∧ (∀ v, s.pulse.pulsing = true → s.pulse.lastPulse = some v → v + 2500 ≤ s.timeBase →
      exec .pulseLoss s = .next
        { s with
          pulse := { s.pulse with pulsing := false }
          notices := s.notices ||| Notice.pulseLost.flag })
    ∧ (∀ v, s.pulse.lastPulse = some v → s.timeBase < v + 2500 → exec .pulseLoss s = .next s)
    ∧ (s.pulse.pulsing = false → exec .pulseLoss s = .next s)
    ∧ exec .clockHoldAtMax s
      = .next { s with clock := s.clock.map fun x => min x 4294967295999 }

/-! ## Supply and reset -/

/-- PART_START with a valid marker: the main domain is reset, OPEN occupations fail INTERRUPTED and
no other record changes, the Coefficient Store, the clock, the loops and the mask are kept, RESTARTED
is set and every other notice the restart itself does not raise is clear. With the marker not valid
the backup-lost start-up runs with ATTN deasserted (R71, R149, R173, R174, R179). That REVISION_IDLE or
STATION_DISCORDANT may stand beside RESTARTED is log 11, the levels of VDD and RESET_N log 9, the time
base's 0 log 19. -/
def Obligations.StartChoosesTheSequence : Prop :=
  (∀ s : State, s.backupValid = true → Table.wf s.loops → ∃ t : State,
    exec .partStart s = .next t
    ∧ (∀ n, Table.get t.occupations n = (Table.get s.occupations n).map fun o =>
        if o.state = .opened then { o with state := .failed .interrupted } else o)
    ∧ (∀ k, Table.get t.loops k = Table.get s.loops k)
    ∧ (∀ k, (Table.get t.stations k).map Station.chain
        = (Table.get s.stations k).map Station.chain)
    ∧ t.hasNotice .restarted
    ∧ (∀ n : Notice, t.hasNotice n → n = .restarted ∨ n = .revisionIdle
        ∨ n = .stationDiscordant)
    ∧ t.channels = perHead Channel.reset ∧ t.engines = perHead .idle
    ∧ t.pulse = PulseMonitor.reset ∧ t.timeBase = 0 ∧ t.link = .idle
    ∧ t.lastRejected = false ∧ t.scan = none ∧ t.startup = false ∧ t.vdd = true
    ∧ t.resetLow = false ∧ t.partition = s.partition ∧ t.nameIndex = s.nameIndex
    ∧ t.active = s.active ∧ t.staged = s.staged ∧ t.calGen = s.calGen
    ∧ t.constituents = s.constituents ∧ t.tableGen = s.tableGen ∧ t.constants = s.constants
    ∧ t.clock = s.clock ∧ t.noticeMask = s.noticeMask ∧ t.backupValid = true)
  ∧ (∀ s : State, s.backupValid = false → ∃ t : State, exec .partStart s = .next t
    ∧ t.startup = true ∧ t.attn = false ∧ t.link = .idle ∧ t.notices = 0
    ∧ t.channels = perHead Channel.reset ∧ t.engines = perHead .idle
    ∧ t.tide = TideEngine.reset ∧ t.revQueue = [] ∧ t.inFlight = none
    ∧ t.pulse = PulseMonitor.reset ∧ t.timeBase = 0)

/-- The other supply and reset events, and the power-on they make: after the backup domain is lost, a
start and the end of its sequence leave every store at the Factory Block's defaults, or the fixed
logic's when its CRC-16 is wrong, and from a good block of the model's content the state is
`State.reset` (R172, R173, R175, R177, R179; log 1, log 10, log 20). The exact effect of
RESET_N_ASSERT, and ATTN without supply, are log 9; one byte that the CRC-16 covers is log 27. -/
def Obligations.SupplyAndResetEvents : Prop :=
  (∀ s : State, s.running = true → s.startup = true → ∃ t : State,
    exec .backupLostStartup s = .next t
    ∧ t = { s with
            partition := .a, stations := [], nameIndex := [], occupations := [], loops := []
            clock := none, staged := perHead none, calGen := perHead 0, tableGen := 0
            noticeMask := BitVec.allOnes 19, backupValid := true, startup := false
            active := t.active, constituents := t.constituents, constants := t.constants
            notices := t.notices }
    ∧ (crc16 s.factory.covered = s.factory.crc →
      t.active = perHead s.factory.template ∧ t.constituents = s.factory.constituents
      ∧ t.constants = s.factory.constants ∧ t.notices = Notice.backupLost.flag)
    ∧ (crc16 s.factory.covered ≠ s.factory.crc →
      t.active = perHead calibrationTemplate
      ∧ t.constituents = List.replicate 12 ⟨false, .longPeriod, 0, 0, 0, 19005⟩
      ∧ t.constants = ⟨13107, 100, 20⟩
      ∧ t.notices = Notice.backupLost.flag ||| Notice.factoryBad.flag))
  ∧ (∀ s : State, exec .resetNAssert s
      = .next { s with resetLow := true, startup := false, scan := none })
  ∧ (∀ s : State, ∃ t : State, exec .vddFail s = .next t
    ∧ t.vdd = false ∧ t.attn = false ∧ t.stations = s.stations
    ∧ t.occupations = s.occupations ∧ t.loops = s.loops ∧ t.clock = s.clock
    ∧ t.active = s.active ∧ t.noticeMask = s.noticeMask ∧ t.backupValid = s.backupValid)
  ∧ (∀ s : State, ∃ t : State, exec .backupDomainLoss s = .next t
    ∧ t.vdd = false ∧ t.backupValid = false ∧ t.clock = none ∧ t.factory = s.factory)
  ∧ (∀ s : State, s.factory = factoryBlock → s.pending = [] → s.resetLow = false →
    ∃ a b : State, exec .backupDomainLoss s = .next a ∧ exec .partStart a = .next b
      ∧ exec .backupLostStartup b = .next State.reset)

/-! ## Invariants that every step keeps -/

/-- Every step keeps the tables in canonical form, the name index in agreement with the Station Table,
and names distinct (R2, R8); and from such a state every step keeps chains and pool in agreement
(R1, R2, R11), and with both, each engine IDLE exactly when its head has no OPEN occupation (R44; while the
supply is absent and in the backup-lost start-up as log 10 has it). -/
def Obligations.RecordsStayIndexed : Prop :=
  (∀ s t : State, s.recordsIndexed → step s = .next t → t.recordsIndexed)
  ∧ (∀ s t : State, s.recordsIndexed → s.chainsAgree → step s = .next t → t.chainsAgree)
  ∧ (∀ s t : State, s.recordsIndexed → s.chainsAgree → s.enginesAgree → step s = .next t →
    t.enginesAgree)

/-- Every step keeps the Revision Queue free of a second item of one kind for one record (R134). -/
def Obligations.QueueStaysDistinct : Prop :=
  ∀ s t : State, s.queueDistinct → step s = .next t → t.queueDistinct

/-- Every step keeps every field of every set, constituent and constant within its range (R162). -/
def Obligations.CoefficientsStayInRange : Prop :=
  ∀ s t : State, s.coefficientsInRange → step s = .next t → t.coefficientsInRange

/-- Every step keeps V = S̄ + T̄ − D in every CLOSED record (R87). -/
def Obligations.ValueLawKept : Prop :=
  ∀ s t : State, s.valuesHold → step s = .next t → t.valuesHold

/-- Every step keeps at most one OPEN loop on each head (R119). -/
def Obligations.OneOpenLoopPerHead : Prop :=
  ∀ s t : State, s.oneOpenLoop → step s = .next t → t.oneOpenLoop

/-- Every step keeps survey time and a pending set in range and no set pending while an occupation
is OPEN; and while one is OPEN no command sets survey time: it is as before, held at its largest
value, or lost with the backup domain (R153, R154). -/
def Obligations.SurveyTimeUnbrokenWhileOpen : Prop :=
  (∀ s t : State, s.timeSound → step s = .next t → t.timeSound)
  ∧ (∀ (c : Instr) (s t : State), s.timeSound → s.anyOpen = true → exec c s = .next t →
    t.clock = s.clock ∨ (t.clock = none ∧ (c = .backupLostStartup ∨ c = .backupDomainLoss)))

/-- Every step keeps the work that the tide-stale, CLOSING and value-stale marks call for waiting or in
flight: no revision work is lost, a restart included. It keeps the Loop Table sound, so that a CLOSING
loop's opener and closer are records its application finds: every opener, closer and member is a CLOSED
occupation of the loop's head and calibration generation (R113, R114, R119, R120, R133, R136, R149). -/
def Obligations.MarksKeepTheirItems : Prop :=
  (∀ s t : State, s.loopsSound → s.marksHaveItems → step s = .next t → t.marksHaveItems)
  ∧ (∀ s t : State, s.recordsIndexed → s.chainsAgree → s.enginesAgree → s.loopsSound →
    step s = .next t → t.loopsSound)

/-- The state after reset meets every invariant of this file. -/
def Obligations.ResetMeetsTheInvariants : Prop :=
  State.reset.recordsIndexed ∧ State.reset.queueDistinct ∧ State.reset.coefficientsInRange
    ∧ State.reset.valuesHold ∧ State.reset.oneOpenLoop ∧ State.reset.timeSound
    ∧ State.reset.marksHaveItems ∧ State.reset.chainsAgree ∧ State.reset.enginesAgree
    ∧ State.reset.loopsSound

end
end

