-- ==== Sys2Proof/Laws/Bytes.lean ====
section
/-! SUPPORT. Bytes and numbers: what is written most significant byte first is read back (R199), and a
field of a payload is what was put there. -/

namespace Sys2Proof.Machine

@[simp] theorem length_beBytes (n v : Nat) : (beBytes n v).length = n := by
  induction n generalizing v with
  | zero => rfl
  | succ n ih => simp [beBytes, ih]

@[simp] theorem length_beSignedBytes (n : Nat) (v : Int) : (beSignedBytes n v).length = n :=
  length_beBytes _ _

/-- The bytes of a number read back are the number, less what does not fit. -/
theorem beNat_beBytes_mod (n v : Nat) : beNat (beBytes n v) = v % 256 ^ n := by
  induction n with
  | zero => simp [beBytes, beNat, Nat.mod_one]
  | succ n ih =>
    rw [beBytes, beNat, ih, length_beBytes, BitVec.toNat_ofNat, Nat.pow_succ 256 n, Nat.mod_mul]
    ring

/-- A number that fits its field is read back. -/
theorem beNat_beBytes {n v : Nat} (h : v < 256 ^ n) : beNat (beBytes n v) = v := by
  rw [beNat_beBytes_mod, Nat.mod_eq_of_lt h]

/-- A field is below the power of its width. -/
theorem beNat_lt (bs : List Byte) : beNat bs < 256 ^ bs.length := by
  induction bs with
  | nil => simp [beNat]
  | cons b bs ih =>
    have hb : b.toNat < 256 := b.isLt
    rw [beNat, List.length_cons, Nat.pow_succ]
    nlinarith

/-- A signed number that fits its field is read back. -/
theorem beInt_beSignedBytes {n : Nat} {v : Int} (lo : -(256 ^ n : Nat) ≤ 2 * v)
    (hi : 2 * v < (256 ^ n : Nat)) : beInt (beSignedBytes n v) = v := by
  have hpos : (0 : Int) < (256 ^ n : Nat) := by exact_mod_cast Nat.pow_pos (by decide)
  have hm := Int.emod_nonneg v (ne_of_gt hpos)
  have hl := Int.emod_lt_of_pos v hpos
  have hk : (v % (256 ^ n : Nat)).toNat < 256 ^ n := by omega
  rw [beInt, length_beSignedBytes, beSignedBytes, beNat_beBytes hk]
  rcases Int.lt_or_le v 0 with hv | hv
  · have : v % (256 ^ n : Nat) = v + (256 ^ n : Nat) := by
      rw [← Int.add_emod_right]
      exact Int.emod_eq_of_lt (by omega) (by omega)
    rw [if_neg (by omega)]
    omega
  · have : v % (256 ^ n : Nat) = v := Int.emod_eq_of_lt hv (by omega)
    rw [if_pos (by omega)]
    omega

/-! ## Fields of a payload -/

/-- A field lies where the bytes before it end. -/
theorem fieldBytes_append (as bs cs : List Byte) :
    fieldBytes as.length bs.length (as ++ bs ++ cs) = bs := by
  simp [fieldBytes]

/-- The same with the offset and the width as numbers. -/
theorem fieldBytes_of {at_ n : Nat} {as bs cs : List Byte} (ha : as.length = at_) (hb : bs.length = n) :
    fieldBytes at_ n (as ++ (bs ++ cs)) = bs := by
  subst ha hb
  rw [← List.append_assoc]
  exact fieldBytes_append as bs cs

/-- An unsigned field after others. -/
theorem fieldNat_of {at_ n v : Nat} {as cs : List Byte} (ha : as.length = at_) (hv : v < 256 ^ n) :
    fieldNat at_ n (as ++ (beBytes n v ++ cs)) = v := by
  rw [fieldNat, fieldBytes_of ha (length_beBytes n v), beNat_beBytes hv]

/-- A signed field after others. -/
theorem fieldInt_of {at_ n : Nat} {v : Int} {as cs : List Byte} (ha : as.length = at_)
    (lo : -(256 ^ n : Nat) ≤ 2 * v) (hi : 2 * v < (256 ^ n : Nat)) :
    fieldInt at_ n (as ++ (beSignedBytes n v ++ cs)) = v := by
  rw [fieldInt, fieldBytes_of ha (length_beSignedBytes n v), beInt_beSignedBytes lo hi]

/-- An unsigned field is below the power of its width. -/
theorem fieldNat_lt (at_ n : Nat) (p : List Byte) : fieldNat at_ n p < 256 ^ n := by
  refine lt_of_lt_of_le (beNat_lt _) (Nat.pow_le_pow_right (by decide) ?_)
  simp [fieldBytes]

/-- A signed field is within the range of its width. -/
theorem fieldInt_range (at_ n : Nat) (p : List Byte) :
    -(256 ^ n : Nat) ≤ 2 * fieldInt at_ n p ∧ 2 * fieldInt at_ n p < (256 ^ n : Nat) := by
  have h := beNat_lt (fieldBytes at_ n p)
  have hle : (256 : Nat) ^ (fieldBytes at_ n p).length ≤ 256 ^ n :=
    Nat.pow_le_pow_right (by decide) (by simp [fieldBytes])
  have hpos : 0 < (256 : Nat) ^ n := Nat.pow_pos (by decide)
  unfold fieldInt beInt
  generalize 256 ^ (fieldBytes at_ n p).length = m at *
  generalize (256 : Nat) ^ n = k at *
  split <;> omega

/-! ## Clamps, counts and rounding -/

theorem clampNat_range {lo hi : Nat} (h : lo ≤ hi) (v : Nat) :
    lo ≤ clampNat lo hi v ∧ clampNat lo hi v ≤ hi := by
  unfold clampNat
  split <;> (try split) <;> omega

theorem clampInt_range {lo hi : Int} (h : lo ≤ hi) (v : Int) :
    lo ≤ clampInt lo hi v ∧ clampInt lo hi v ≤ hi := by
  unfold clampInt
  split <;> (try split) <;> omega

theorem clampNat_of_range {lo hi v : Nat} (h1 : lo ≤ v) (h2 : v ≤ hi) : clampNat lo hi v = v := by
  unfold clampNat
  split <;> (try split) <;> omega

theorem clampInt_of_range {lo hi v : Int} (h1 : lo ≤ v) (h2 : v ≤ hi) : clampInt lo hi v = v := by
  unfold clampInt
  split <;> (try split) <;> omega

theorem countUp_eq_min (limit n k : Nat) : countUp limit n k = min (n + k) limit := by
  unfold countUp
  split <;> omega

/-- A rounded quotient is nearest: it is off by half a divisor at most. -/
theorem roundDiv_near (a : Int) {b : Nat} (hb : 0 < b) :
    2 * (b * roundDiv a b - a) ≤ b ∧ 2 * (a - b * roundDiv a b) ≤ b := by
  have hd := Nat.div_add_mod (2 * a.natAbs + b) (2 * b)
  have hl := Nat.mod_lt (2 * a.natAbs + b) (show 0 < 2 * b by omega)
  unfold roundDiv
  generalize (2 * a.natAbs + b) / (2 * b) = q at *
  generalize (2 * a.natAbs + b) % (2 * b) = r at *
  have hq : (2 * b * q : Int) + r = 2 * a.natAbs + b := by exact_mod_cast hd
  have hr : (r : Int) < 2 * b := by exact_mod_cast hl
  have hr0 : (0 : Int) ≤ r := Int.natCast_nonneg r
  simp only
  split
  · next h =>
    have : (a.natAbs : Int) = -a := by omega
    constructor <;> nlinarith
  · next h =>
    have : (a.natAbs : Int) = a := by omega
    constructor <;> nlinarith

end Sys2Proof.Machine
end

