-- ==== Sys2Proof/Laws/Frames.lean ====
section
/-! SUPPORT. For each shared operation, the fields of the state it can change: the state after it is
the state before with those fields alone replaced. -/

namespace Sys2Proof.Machine

/-! ## The Tide Engine -/

theorem State.startEvaluation_frame (s : State) : ∃ t, s.startEvaluation = { s with tide := t } := by
  unfold State.startEvaluation
  split
  · exact ⟨_, rfl⟩
  · exact ⟨s.tide, rfl⟩

theorem State.placeRequest_frame (s : State) (src : TideSource) (r : TideRequest) :
    ∃ t, s.placeRequest src r = { s with tide := t } := by
  unfold State.placeRequest
  split
  · obtain ⟨t, h⟩ := State.startEvaluation_frame _
    exact ⟨t, h⟩
  · exact ⟨s.tide, rfl⟩

theorem State.withdraw_frame (s : State) (src : TideSource) :
    ∃ t, s.withdraw src = { s with tide := t } := by
  unfold State.withdraw
  split
  · exact ⟨s.tide, rfl⟩
  · exact ⟨_, rfl⟩
  · exact ⟨_, rfl⟩

theorem State.placeOwed_frame (s : State) (h : Head) :
    ∃ e t, s.placeOwed h = { s with engines := e, tide := t } := by
  unfold State.placeOwed
  split
  · split
    · obtain ⟨t, ht⟩ := State.placeRequest_frame (s.setEngine h _) (.head h) _
      exact ⟨_, t, ht⟩
    · exact ⟨s.engines, s.tide, rfl⟩
  · exact ⟨s.engines, s.tide, rfl⟩

/-! ## The Revision Engine -/

theorem State.queueItem_frame (s : State) (i : RevItem) :
    ∃ q l st, s.queueItem i = { s with revQueue := q, loops := l, stations := st } := by
  obtain ⟨k, t⟩ := i
  cases k
  · exact ⟨_, s.loops, s.stations, rfl⟩
  · exact ⟨_, _, s.stations, rfl⟩
  · exact ⟨_, s.loops, _, rfl⟩

theorem State.queueAll_frame (is : List RevItem) :
    ∀ s : State, ∃ q l st, s.queueAll is = { s with revQueue := q, loops := l, stations := st } := by
  induction is with
  | nil => exact fun s => ⟨s.revQueue, s.loops, s.stations, rfl⟩
  | cons i is ih =>
    intro s
    obtain ⟨q, l, st, h⟩ := s.queueItem_frame i
    obtain ⟨q', l', st', h'⟩ := ih (s.queueItem i)
    refine ⟨q', l', st', ?_⟩
    show State.queueAll (s.queueItem i) is = _
    rw [h', h]

theorem State.dropInFlight_frame (s : State) :
    ∃ f t, s.dropInFlight = { s with inFlight := f, tide := t } := by
  unfold State.dropInFlight
  split
  · obtain ⟨t, h⟩ := State.withdraw_frame { s with inFlight := none } .revision
    exact ⟨none, t, h⟩
  · exact ⟨none, s.tide, rfl⟩
  · exact ⟨s.inFlight, s.tide, rfl⟩

theorem State.processStation_frame (s : State) (k : Nat) :
    ∃ st n, s.processStation k = { s with stations := st, notices := n } := by
  unfold State.processStation
  split
  · exact ⟨s.stations, s.notices, rfl⟩
  · dsimp only
    split
    · exact ⟨_, _, rfl⟩
    · exact ⟨_, s.notices, rfl⟩

theorem State.requestRedoStep_frame (s : State) : ∃ t, s.requestRedoStep = { s with tide := t } := by
  unfold State.requestRedoStep
  split
  · split
    · split
      · exact State.placeRequest_frame s _ _
      · exact ⟨s.tide, rfl⟩
    · exact ⟨s.tide, rfl⟩
  · exact ⟨s.tide, rfl⟩

theorem State.takeRedo_frame (s : State) (o : Nat) :
    ∃ f t, s.takeRedo o = { s with inFlight := f, tide := t } := by
  obtain ⟨t, h⟩ := State.requestRedoStep_frame
    { s with inFlight := some (.tideRedo o []
      ((((Table.get s.occupations o).map Occupation.steps).getD []).map TideStep.index)) }
  exact ⟨_, t, h⟩

theorem takeItems_frame (fuel : Nat) :
    ∀ s : State, ∃ q f t st n, takeItems fuel s =
      { s with revQueue := q, inFlight := f, tide := t, stations := st, notices := n } := by
  induction fuel with
  | zero => exact fun s => ⟨s.revQueue, s.inFlight, s.tide, s.stations, s.notices, rfl⟩
  | succ fuel ih =>
    intro s
    unfold takeItems
    split
    · next i rest hi hq =>
      dsimp only
      split
      · obtain ⟨st, n, h⟩ := State.processStation_frame { s with revQueue := rest } i.target
        obtain ⟨q, f, t, st', n', h'⟩ := ih ({ s with revQueue := rest }.processStation i.target)
        exact ⟨q, f, t, st', n', by rw [h', h]⟩
      · obtain ⟨f, t, h⟩ := State.takeRedo_frame { s with revQueue := rest } i.target
        exact ⟨rest, f, t, s.stations, s.notices, h⟩
      · split
        · obtain ⟨q, f, t, st, n, h⟩ := ih { s with revQueue := rest ++ [i] }
          exact ⟨q, f, t, st, n, h⟩
        · exact ⟨rest, _, s.tide, s.stations, s.notices, rfl⟩
    · exact ⟨s.revQueue, s.inFlight, s.tide, s.stations, s.notices, rfl⟩

/-- What the Revision Engine's going on can change: the queue, the item in flight, the tide slots,
station records and notices. -/
theorem State.revise_frame (b : Bool) (s : State) :
    ∃ q f t st n, State.revise b s =
      { s with revQueue := q, inFlight := f, tide := t, stations := st, notices := n } := by
  obtain ⟨q, f, t, st, n, h⟩ := takeItems_frame s.revQueue.length s
  unfold State.revise
  dsimp only
  split
  · exact ⟨q, f, t, st, _, by rw [h]; rfl⟩
  · exact ⟨q, f, t, st, n, h⟩

theorem State.restartRedo_frame (s : State) (os : List Nat) :
    ∃ q f t, s.restartRedo os = { s with revQueue := q, inFlight := f, tide := t } := by
  choose f t h using State.dropInFlight_frame
  unfold State.restartRedo
  split
  · split
    · simp only [h]
      exact ⟨_, _, _, rfl⟩
    · exact ⟨s.revQueue, s.inFlight, s.tide, rfl⟩
  · exact ⟨s.revQueue, s.inFlight, s.tide, rfl⟩

theorem State.markTideStale_frame (s : State) (os : List Nat) :
    ∃ q f t l st, s.markTideStale os =
      { s with
        occupations := Table.modifyKeys s.occupations os fun o => { o with tideStale := true }
        revQueue := q, inFlight := f, tide := t, loops := l, stations := st } := by
  choose q l st h using State.queueAll_frame
  choose q' f t h' using State.restartRedo_frame
  simp only [State.markTideStale, h, h']
  exact ⟨_, _, _, _, _, rfl⟩

theorem State.completeRedo_frame (s : State) (n : Nat) (held : List HeldResult) :
    ∃ o q l st, s.completeRedo n held =
      { s with inFlight := none, occupations := o, revQueue := q, loops := l, stations := st } := by
  choose q l st h using State.queueAll_frame
  choose q' l' st' h' using State.queueItem_frame
  unfold State.completeRedo
  split
  · exact ⟨s.occupations, s.revQueue, s.loops, s.stations, rfl⟩
  · simp only [h, h']
    exact ⟨_, _, _, _, rfl⟩

theorem State.redoResult_frame (s : State) (target step : Nat) (v : TideValue) :
    ∃ o q f t l st n, s.redoResult target step v =
      { s with
        occupations := o, revQueue := q, inFlight := f, tide := t, loops := l, stations := st
        notices := n } := by
  choose o q l st h using State.completeRedo_frame
  choose q' f t st' n h' using State.revise_frame
  choose t' h'' using State.requestRedoStep_frame
  unfold State.redoResult
  split
  · split
    · dsimp only
      split
      · simp only [h, h']
        exact ⟨_, _, _, _, _, _, _, rfl⟩
      · simp only [h'']
        exact ⟨s.occupations, s.revQueue, _, _, s.loops, s.stations, s.notices, rfl⟩
    · exact ⟨s.occupations, s.revQueue, s.inFlight, s.tide, s.loops, s.stations, s.notices, rfl⟩
  · exact ⟨s.occupations, s.revQueue, s.inFlight, s.tide, s.loops, s.stations, s.notices, rfl⟩

/-! ## The Drift Unit -/

theorem State.startLoop_frame (s : State) (n : Nat) (o : Occupation) (a : Bool) :
    ∃ oc l nt, s.startLoop n o a = { s with occupations := oc, loops := l, notices := nt } := by
  unfold State.startLoop
  split
  · exact ⟨s.occupations, s.loops, _, rfl⟩
  · exact ⟨_, _, s.notices, rfl⟩

/-- What a handover can change: occupation records, the Loop Table, the queue, a notice. -/
theorem State.handOver_frame (s : State) (n : Nat) :
    ∃ oc l q st nt, s.handOver n =
      { s with occupations := oc, loops := l, revQueue := q, stations := st, notices := nt } := by
  choose q l st h using State.queueItem_frame
  choose oc l' nt h' using State.startLoop_frame
  unfold State.handOver
  split
  · exact ⟨s.occupations, s.loops, s.revQueue, s.stations, s.notices, rfl⟩
  · split
    · split
      · simp only [State.closeLoop, h, h']
        exact ⟨_, _, _, _, _, rfl⟩
      · unfold State.joinLoop
        split
        · exact ⟨_, _, s.revQueue, s.stations, s.notices, rfl⟩
        · exact ⟨s.occupations, s.loops, s.revQueue, s.stations, _, rfl⟩
    · split
      · simp only [h']
        exact ⟨_, _, s.revQueue, s.stations, _, rfl⟩
      · exact ⟨s.occupations, s.loops, s.revQueue, s.stations, s.notices, rfl⟩

theorem State.dropApply_frame (s : State) (k : Nat) :
    ∃ q f t, s.dropApply k = { s with revQueue := q, inFlight := f, tide := t } := by
  unfold State.dropApply
  dsimp only
  split
  · obtain ⟨f, t, h⟩ := State.dropInFlight_frame (s.removeItems _)
    exact ⟨_, f, t, h⟩
  · exact ⟨_, s.inFlight, s.tide, rfl⟩

theorem State.withdrawTerms_frame (s : State) (l : Loop) :
    ∃ oc, s.withdrawTerms l = { s with occupations := oc } := by
  unfold State.withdrawTerms
  dsimp only
  split
  · exact ⟨_, rfl⟩
  · exact ⟨_, rfl⟩

/-- What an abandonment can change. -/
theorem State.abandon_frame (s : State) (k : Nat) :
    ∃ oc l q f t st, s.abandon k =
      { s with
        occupations := oc, loops := l, revQueue := q, inFlight := f, tide := t
        stations := st } := by
  choose oc h using State.withdrawTerms_frame
  choose q f t h' using State.dropApply_frame
  choose q' l' st h'' using State.queueAll_frame
  unfold State.abandon
  split
  · exact ⟨s.occupations, s.loops, s.revQueue, s.inFlight, s.tide, s.stations, rfl⟩
  · simp only [State.queueStationsOf, h, h', h'']
    exact ⟨_, _, _, _, _, _, rfl⟩

theorem State.removeMember_frame (s : State) (k n : Nat) :
    ∃ l f, s.removeMember k n = { s with loops := l, inFlight := f } := by
  unfold State.removeMember
  split
  · exact ⟨s.loops, s.inFlight, rfl⟩
  · dsimp only
    split
    · split
      · exact ⟨_, _, rfl⟩
      · exact ⟨_, s.inFlight, rfl⟩
    · exact ⟨_, s.inFlight, rfl⟩

theorem State.completeApply_frame (s : State) (k : Nat) :
    ∃ oc l q st n, s.completeApply k =
      { s with
        inFlight := none, occupations := oc, loops := l, revQueue := q, stations := st
        notices := n } := by
  choose q l st h using State.queueAll_frame
  unfold State.completeApply
  dsimp only
  split
  · exact ⟨s.occupations, s.loops, s.revQueue, s.stations, s.notices, rfl⟩
  · split
    · exact ⟨s.occupations, s.loops, s.revQueue, s.stations, s.notices, rfl⟩
    · split
      · simp only [State.applyLoop, State.queueStationsOf, h]
        exact ⟨_, _, _, _, _, rfl⟩
      · exact ⟨s.occupations, s.loops, s.revQueue, s.stations, s.notices, rfl⟩

/-! ## The Occupation Engines -/

theorem State.failOccupation_frame (s : State) (h : Head) (c : FailCause) :
    ∃ oc t n e, s.failOccupation h c =
      { s with occupations := oc, tide := t, notices := n, engines := e } := by
  choose t ht using State.withdraw_frame
  unfold State.failOccupation
  split
  · exact ⟨s.occupations, s.tide, s.notices, s.engines, rfl⟩
  · simp only [ht]
    exact ⟨_, _, _, _, rfl⟩

/-- What a close can change. -/
theorem State.closeOccupation_frame (s : State) (h : Head) :
    ∃ oc l q f t st n e, s.closeOccupation h =
      { s with
        occupations := oc, loops := l, revQueue := q, inFlight := f, tide := t
        stations := st, notices := n, engines := e } := by
  choose q l st h1 using State.queueItem_frame
  choose oc2 l2 q2 st2 n2 h2 using State.handOver_frame
  choose q4 f4 t4 st4 n4 h4 using State.revise_frame
  unfold State.closeOccupation
  split
  · split
    · dsimp only
      split
      · simp only [h1, h2, h4]
        exact ⟨_, _, _, _, _, _, _, _, rfl⟩
      · simp only [h1, h2, h4]
        exact ⟨_, _, _, _, _, _, _, _, rfl⟩
    · exact ⟨s.occupations, s.loops, s.revQueue, s.inFlight, s.tide, s.stations, s.notices,
        s.engines, rfl⟩
  · exact ⟨s.occupations, s.loops, s.revQueue, s.inFlight, s.tide, s.stations, s.notices,
      s.engines, rfl⟩

end Sys2Proof.Machine
end

