-- ==== Sys2Proof/Laws/EngineFrames.lean ====
section
/-! SUPPORT. What the Occupation Engines' and channels' operations can change. -/

namespace Sys2Proof.Machine

theorem State.enterIntegrating_frame (s : State) (h : Head) (t : TimeMs) :
    ∃ e, s.enterIntegrating h t = { s with engines := e } := by
  unfold State.enterIntegrating
  split
  · exact ⟨_, rfl⟩
  · exact ⟨s.engines, rfl⟩

theorem State.settleReached_frame (s : State) (h : Head) :
    ∃ e, s.settleReached h = { s with engines := e } := by
  unfold State.settleReached
  split
  · split
    · exact State.enterIntegrating_frame s h _
    · exact ⟨s.engines, rfl⟩
  · exact ⟨s.engines, rfl⟩

theorem State.closeIfReady_frame (s : State) (h : Head) :
    ∃ oc l q f t st n e, s.closeIfReady h =
      { s with
        occupations := oc, loops := l, revQueue := q, inFlight := f, tide := t
        stations := st, notices := n, engines := e } := by
  unfold State.closeIfReady
  split
  · split
    · exact State.closeOccupation_frame s h
    · exact ⟨s.occupations, s.loops, s.revQueue, s.inFlight, s.tide, s.stations, s.notices,
      s.engines, rfl⟩
  · exact ⟨s.occupations, s.loops, s.revQueue, s.inFlight, s.tide, s.stations, s.notices,
      s.engines, rfl⟩

theorem State.endIntegration_frame (s : State) (h : Head) (d : Ending) :
    ∃ oc l q f t st n e, s.endIntegration h d =
      { s with
        occupations := oc, loops := l, revQueue := q, inFlight := f, tide := t
        stations := st, notices := n, engines := e } := by
  choose oc t n e h1 using State.failOccupation_frame
  choose oc' l q f t' st n' e' h2 using State.closeIfReady_frame
  unfold State.endIntegration
  split
  · split
    · simp only [h1]
      exact ⟨_, s.loops, s.revQueue, s.inFlight, _, s.stations, _, _, rfl⟩
    · simp only [h2]
      exact ⟨_, _, _, _, _, _, _, _, rfl⟩
  · exact ⟨s.occupations, s.loops, s.revQueue, s.inFlight, s.tide, s.stations, s.notices,
      s.engines, rfl⟩

theorem State.targetReached_frame (s : State) (h : Head) :
    ∃ oc l q f t st n e, s.targetReached h =
      { s with
        occupations := oc, loops := l, revQueue := q, inFlight := f, tide := t
        stations := st, notices := n, engines := e } := by
  unfold State.targetReached
  split
  · split
    · exact State.endIntegration_frame s h _
    · exact ⟨s.occupations, s.loops, s.revQueue, s.inFlight, s.tide, s.stations, s.notices,
      s.engines, rfl⟩
  · exact ⟨s.occupations, s.loops, s.revQueue, s.inFlight, s.tide, s.stations, s.notices,
      s.engines, rfl⟩

theorem State.stopIntegration_frame (s : State) (h : Head) :
    ∃ oc l q f t st n e, s.stopIntegration h =
      { s with
        occupations := oc, loops := l, revQueue := q, inFlight := f, tide := t
        stations := st, notices := n, engines := e } := by
  choose oc t n e h1 using State.failOccupation_frame
  unfold State.stopIntegration
  split
  · split
    · simp only [h1]
      exact ⟨_, s.loops, s.revQueue, s.inFlight, _, s.stations, _, _, rfl⟩
    · exact State.endIntegration_frame s h _
  · exact ⟨s.occupations, s.loops, s.revQueue, s.inFlight, s.tide, s.stations, s.notices,
      s.engines, rfl⟩

theorem State.capIntegration_frame (s : State) (h : Head) :
    ∃ oc l q f t st n e, s.capIntegration h =
      { s with
        occupations := oc, loops := l, revQueue := q, inFlight := f, tide := t
        stations := st, notices := n, engines := e } := by
  choose oc t n e h1 using State.failOccupation_frame
  unfold State.capIntegration
  split
  · split
    · simp only [h1]
      exact ⟨_, s.loops, s.revQueue, s.inFlight, _, s.stations, _, _, rfl⟩
    · exact State.endIntegration_frame s h _
  · exact ⟨s.occupations, s.loops, s.revQueue, s.inFlight, s.tide, s.stations, s.notices,
      s.engines, rfl⟩

theorem State.integrateSample_frame (s : State) (h : Head) (w : Session) (g : Integration)
    (x : Sample) :
    ∃ oc t e, s.integrateSample h w g x =
      { s with occupations := oc, tide := t, engines := e } := by
  choose e t h1 using State.placeOwed_frame
  simp only [State.integrateSample, h1]
  exact ⟨_, _, _, rfl⟩

theorem State.engineSample_frame (s : State) (h : Head) (x : Sample) :
    ∃ oc l q f t st n e, s.engineSample h x =
      { s with
        occupations := oc, loops := l, revQueue := q, inFlight := f, tide := t
        stations := st, notices := n, engines := e } := by
  choose oc t n e h1 using State.failOccupation_frame
  choose e' h2 using State.settleReached_frame
  choose oc' t' e'' h3 using State.integrateSample_frame
  choose oc4 l4 q4 f4 t4 st4 n4 e4 h4 using State.targetReached_frame
  unfold State.engineSample
  split
  · split
    · simp only [h1]
      exact ⟨_, s.loops, s.revQueue, s.inFlight, _, s.stations, _, _, rfl⟩
    · simp only [h2]
      exact ⟨s.occupations, s.loops, s.revQueue, s.inFlight, s.tide, s.stations, s.notices, _, rfl⟩
  · split
    · simp only [h1]
      exact ⟨_, s.loops, s.revQueue, s.inFlight, _, s.stations, _, _, rfl⟩
    · split
      · simp only [h3, h4]
        exact ⟨_, _, _, _, _, _, _, _, rfl⟩
      · exact ⟨_, s.loops, s.revQueue, s.inFlight, s.tide, s.stations, s.notices, s.engines, rfl⟩
  · exact ⟨s.occupations, s.loops, s.revQueue, s.inFlight, s.tide, s.stations, s.notices,
      s.engines, rfl⟩
  · exact ⟨s.occupations, s.loops, s.revQueue, s.inFlight, s.tide, s.stations, s.notices,
      s.engines, rfl⟩

theorem State.engineCorrupt_frame (s : State) (h : Head) :
    ∃ oc, s.engineCorrupt h = { s with occupations := oc } := by
  unfold State.engineCorrupt
  split
  · exact ⟨_, rfl⟩
  · exact ⟨s.occupations, rfl⟩

theorem State.engineGap_frame (s : State) (h : Head) (m : Nat) :
    ∃ oc, s.engineGap h m = { s with occupations := oc } := by
  unfold State.engineGap
  split
  · exact ⟨_, rfl⟩
  · exact ⟨s.occupations, rfl⟩

theorem State.engineHeadLost_frame (s : State) (h : Head) :
    ∃ e, s.engineHeadLost h = { s with engines := e } := by
  unfold State.engineHeadLost
  split
  · exact ⟨_, rfl⟩
  · exact ⟨s.engines, rfl⟩

theorem State.engineResult_frame (s : State) (h : Head) (a b : Nat) (v : TideValue) :
    ∃ oc l q f t st n e, s.engineResult h a b v =
      { s with
        occupations := oc, loops := l, revQueue := q, inFlight := f, tide := t
        stations := st, notices := n, engines := e } := by
  choose e1 t1 h1 using State.placeOwed_frame
  choose oc' l q f t' st n' e' h2 using State.closeIfReady_frame
  unfold State.engineResult
  split
  · split
    · simp only [h1, h2]
      exact ⟨_, _, _, _, _, _, _, _, rfl⟩
    · simp only [h1]
      exact ⟨s.occupations, s.loops, s.revQueue, s.inFlight, _, s.stations, s.notices, _, rfl⟩
  · exact ⟨s.occupations, s.loops, s.revQueue, s.inFlight, s.tide, s.stations, s.notices,
      s.engines, rfl⟩

theorem State.completeEvaluation_frame (s : State) :
    ∃ oc l q f t st n e, s.completeEvaluation =
      { s with
        occupations := oc, loops := l, revQueue := q, inFlight := f, tide := t
        stations := st, notices := n, engines := e } := by
  choose t1 h1 using State.startEvaluation_frame
  choose oc2 l2 q2 f2 t2 st2 n2 e2 h2 using State.engineResult_frame
  choose oc3 q3 f3 t3 l3 st3 n3 h3 using State.redoResult_frame
  unfold State.completeEvaluation
  split
  · exact ⟨s.occupations, s.loops, s.revQueue, s.inFlight, s.tide, s.stations, s.notices,
      s.engines, rfl⟩
  · dsimp only
    split
    · simp only [h1]
      exact ⟨s.occupations, s.loops, s.revQueue, s.inFlight, _, s.stations, s.notices, s.engines, rfl⟩
    · split
      · simp only [h1, h2]
        exact ⟨_, _, _, _, _, _, _, _, rfl⟩
      · simp only [h1, h3]
        exact ⟨_, _, _, _, _, _, _, s.engines, rfl⟩

theorem State.countCorrupt_frame (s : State) (h : Head) (r : Receiver) :
    ∃ c oc, s.countCorrupt h r = { s with channels := c, occupations := oc } := by
  choose oc h1 using State.engineCorrupt_frame
  simp only [State.countCorrupt, h1]
  exact ⟨_, _, rfl⟩

/-- What a character on a head line can change. -/
theorem State.receiveCharacter_frame (s : State) (h : Head) (b : Byte) :
    ∃ c oc l q f t st n e, s.receiveCharacter h b =
      { s with
        channels := c, occupations := oc, loops := l, revQueue := q, inFlight := f, tide := t
        stations := st, notices := n, engines := e } := by
  choose c1 oc1 h1 using State.countCorrupt_frame
  choose oc2 h2 using State.engineGap_frame
  choose oc l q f t st n e h3 using State.engineSample_frame
  unfold State.receiveCharacter
  dsimp only
  split
  · unfold State.checkFrame
    split
    · simp only [State.validFrame, h2, h3]
      exact ⟨_, _, _, _, _, _, _, _, _, rfl⟩
    · simp only [h1]
      exact ⟨_, _, s.loops, s.revQueue, s.inFlight, s.tide, s.stations, s.notices, s.engines, rfl⟩
  · exact ⟨_, s.occupations, s.loops, s.revQueue, s.inFlight, s.tide, s.stations, s.notices,
      s.engines, rfl⟩

theorem State.loseHead_frame (s : State) (h : Head) :
    ∃ c n e, s.loseHead h = { s with channels := c, notices := n, engines := e } := by
  choose e h1 using State.engineHeadLost_frame
  unfold State.loseHead
  split
  · simp only [h1]
    exact ⟨_, _, _, rfl⟩
  · exact ⟨s.channels, s.notices, s.engines, rfl⟩

end Sys2Proof.Machine
end

