-- ==== Sys2Proof/Laws/FactoryBlock.lean ====
section
/-! SUPPORT. The Factory Block of the model: its check is good, and its CRC-16 does not cover itself
(R176, R196). -/

namespace Sys2Proof.Machine

/-- The CRC-16 does not cover itself. -/
theorem FactoryBlock.covered_crc (f : FactoryBlock) (c : BitVec 16) :
    FactoryBlock.covered { f with crc := c } = f.covered := rfl

/-- A block programmed with the CRC-16 of its content is good. -/
theorem FactoryBlock.good_programmed (f : FactoryBlock) :
    FactoryBlock.good { f with crc := crc16 f.covered } = true := by
  unfold FactoryBlock.good
  rw [FactoryBlock.covered_crc]
  exact beq_self_eq_true _

/-- The check of R175 part 4 passes on the block as programmed. -/
theorem factoryBlock_good : factoryBlock.good = true := by
  unfold factoryBlock
  exact FactoryBlock.good_programmed factoryContent

theorem factoryBlock_crc : crc16 factoryBlock.covered = factoryBlock.crc :=
  eq_of_beq factoryBlock_good

theorem reset_factory : State.reset.factory = factoryBlock := by rw [State.reset]

end Sys2Proof.Machine
end

