-- ==== Sys2Proof/Laws/PerInstr.lean ====
section
/-! SUPPORT. The family FrameSize: the request frame of a well-formed command is 7 to 519 bytes long
(R198). -/

namespace Sys2Proof.Laws

open Sys2Proof Sys2Proof.Machine

/-- A request frame is seven bytes longer than its payload (R198). -/
theorem length_requestFrame (code tag : Byte) (p : List Byte) :
    (requestFrame code tag p).length = 7 + p.length := by
  simp [requestFrame, frameBody, length_beBytes]
  omega

/-- The size of the frame that carries the command, if a request frame carries it (R198). -/
def FrameSize.Statement (i : Instr) : Prop :=
  i.wellFormed = true → ∀ r, i.request? = some r →
    7 ≤ (requestFrame r.code r.tag r.payload).length
      ∧ (requestFrame r.code r.tag r.payload).length ≤ 519

/-- A payload that fits makes a frame within the limit. -/
theorem frameSize_of_fits (code tag : Byte) (p : List Byte) (h : payloadFits p = true) :
    7 ≤ (requestFrame code tag p).length ∧ (requestFrame code tag p).length ≤ 519 := by
  rw [length_requestFrame]
  have h' : p.length ≤ 512 := of_decide_eq_true h
  omega

/-- A command that carries a request, with its well-formedness. -/
theorem frameSize_of_request {i : Instr} (code tag : Byte) (p : List Byte)
    (hi : i.request? = some ⟨code, tag, p⟩) (hw : i.wellFormed = true → payloadFits p = true) :
    FrameSize.Statement i := by
  intro h r hr
  rw [hi] at hr
  cases hr
  exact frameSize_of_fits _ _ _ (hw h)

/-- A command that carries no request. -/
theorem frameSize_of_none {i : Instr} (hi : i.request? = none) : FrameSize.Statement i := by
  intro _ r hr
  rw [hi] at hr
  cases hr

theorem FrameSize.declareStation (tag : Byte) (payload : List Byte) :
    FrameSize.Statement (.declareStation tag payload) :=
  frameSize_of_request _ _ _ rfl id

theorem FrameSize.editStation (tag : Byte) (payload : List Byte) :
    FrameSize.Statement (.editStation tag payload) :=
  frameSize_of_request _ _ _ rfl id

theorem FrameSize.readStation (tag : Byte) (payload : List Byte) :
    FrameSize.Statement (.readStation tag payload) :=
  frameSize_of_request _ _ _ rfl id

theorem FrameSize.findName (tag : Byte) (payload : List Byte) :
    FrameSize.Statement (.findName tag payload) :=
  frameSize_of_request _ _ _ rfl id

theorem FrameSize.findNear (tag : Byte) (payload : List Byte) :
    FrameSize.Statement (.findNear tag payload) :=
  frameSize_of_request _ _ _ rfl id

theorem FrameSize.findNearScanEnd : FrameSize.Statement .findNearScanEnd :=
  frameSize_of_none rfl

theorem FrameSize.retireStation (tag : Byte) (payload : List Byte) :
    FrameSize.Statement (.retireStation tag payload) :=
  frameSize_of_request _ _ _ rfl id

theorem FrameSize.clearSurvey (tag : Byte) (payload : List Byte) :
    FrameSize.Statement (.clearSurvey tag payload) :=
  frameSize_of_request _ _ _ rfl id

theorem FrameSize.openOccupation (tag : Byte) (payload : List Byte) :
    FrameSize.Statement (.openOccupation tag payload) :=
  frameSize_of_request _ _ _ rfl id

theorem FrameSize.forceIntegrate (tag : Byte) (payload : List Byte) :
    FrameSize.Statement (.forceIntegrate tag payload) :=
  frameSize_of_request _ _ _ rfl id

theorem FrameSize.stopOccupation (tag : Byte) (payload : List Byte) :
    FrameSize.Statement (.stopOccupation tag payload) :=
  frameSize_of_request _ _ _ rfl id

theorem FrameSize.cancelOccupation (tag : Byte) (payload : List Byte) :
    FrameSize.Statement (.cancelOccupation tag payload) :=
  frameSize_of_request _ _ _ rfl id

theorem FrameSize.readOccupation (tag : Byte) (payload : List Byte) :
    FrameSize.Statement (.readOccupation tag payload) :=
  frameSize_of_request _ _ _ rfl id

theorem FrameSize.excludeOccupation (tag : Byte) (payload : List Byte) :
    FrameSize.Statement (.excludeOccupation tag payload) :=
  frameSize_of_request _ _ _ rfl id

theorem FrameSize.includeOccupation (tag : Byte) (payload : List Byte) :
    FrameSize.Statement (.includeOccupation tag payload) :=
  frameSize_of_request _ _ _ rfl id

theorem FrameSize.deleteOccupation (tag : Byte) (payload : List Byte) :
    FrameSize.Statement (.deleteOccupation tag payload) :=
  frameSize_of_request _ _ _ rfl id

theorem FrameSize.readLoop (tag : Byte) (payload : List Byte) :
    FrameSize.Statement (.readLoop tag payload) :=
  frameSize_of_request _ _ _ rfl id

theorem FrameSize.abandonLoop (tag : Byte) (payload : List Byte) :
    FrameSize.Statement (.abandonLoop tag payload) :=
  frameSize_of_request _ _ _ rfl id

theorem FrameSize.releaseLoop (tag : Byte) (payload : List Byte) :
    FrameSize.Statement (.releaseLoop tag payload) :=
  frameSize_of_request _ _ _ rfl id

theorem FrameSize.readHead (tag : Byte) (payload : List Byte) :
    FrameSize.Statement (.readHead tag payload) :=
  frameSize_of_request _ _ _ rfl id

theorem FrameSize.headReset (tag : Byte) (payload : List Byte) :
    FrameSize.Statement (.headReset tag payload) :=
  frameSize_of_request _ _ _ rfl id

theorem FrameSize.stageCalibration (tag : Byte) (payload : List Byte) :
    FrameSize.Statement (.stageCalibration tag payload) :=
  frameSize_of_request _ _ _ rfl id

theorem FrameSize.readCalibration (tag : Byte) (payload : List Byte) :
    FrameSize.Statement (.readCalibration tag payload) :=
  frameSize_of_request _ _ _ rfl id

theorem FrameSize.writeConstituent (tag : Byte) (payload : List Byte) :
    FrameSize.Statement (.writeConstituent tag payload) :=
  frameSize_of_request _ _ _ rfl id

theorem FrameSize.readConstituent (tag : Byte) (payload : List Byte) :
    FrameSize.Statement (.readConstituent tag payload) :=
  frameSize_of_request _ _ _ rfl id

theorem FrameSize.setConstants (tag : Byte) (payload : List Byte) :
    FrameSize.Statement (.setConstants tag payload) :=
  frameSize_of_request _ _ _ rfl id

theorem FrameSize.setTime (tag : Byte) (payload : List Byte) :
    FrameSize.Statement (.setTime tag payload) :=
  frameSize_of_request _ _ _ rfl id

theorem FrameSize.syncToPulse (tag : Byte) (payload : List Byte) :
    FrameSize.Statement (.syncToPulse tag payload) :=
  frameSize_of_request _ _ _ rfl id

theorem FrameSize.readTime (tag : Byte) (payload : List Byte) :
    FrameSize.Statement (.readTime tag payload) :=
  frameSize_of_request _ _ _ rfl id

theorem FrameSize.readStatus (tag : Byte) (payload : List Byte) :
    FrameSize.Statement (.readStatus tag payload) :=
  frameSize_of_request _ _ _ rfl id

theorem FrameSize.clearNotices (tag : Byte) (payload : List Byte) :
    FrameSize.Statement (.clearNotices tag payload) :=
  frameSize_of_request _ _ _ rfl id

theorem FrameSize.setNoticeMask (tag : Byte) (payload : List Byte) :
    FrameSize.Statement (.setNoticeMask tag payload) :=
  frameSize_of_request _ _ _ rfl id

theorem FrameSize.linkReset (tag : Byte) (payload : List Byte) :
    FrameSize.Statement (.linkReset tag payload) :=
  frameSize_of_request _ _ _ rfl id

theorem FrameSize.unknownRequest (code tag : Byte) (payload : List Byte) :
    FrameSize.Statement (.unknownRequest code tag payload) :=
  frameSize_of_request _ _ _ rfl fun h => (Bool.and_eq_true _ _ ▸ h : _ ∧ _).2

theorem FrameSize.startupBusyAnswer (code tag : Byte) (payload : List Byte) :
    FrameSize.Statement (.startupBusyAnswer code tag payload) :=
  frameSize_of_request _ _ _ rfl id

theorem FrameSize.badRequestFrame (mosi : List Byte) :
    FrameSize.Statement (.badRequestFrame mosi) :=
  frameSize_of_none rfl

theorem FrameSize.fetchTransfer (clocked : Nat) : FrameSize.Statement (.fetchTransfer clocked) :=
  frameSize_of_none rfl

theorem FrameSize.statusTransfer (mosi : List Byte) : FrameSize.Statement (.statusTransfer mosi) :=
  frameSize_of_none rfl

theorem FrameSize.headFrame (h : Head) (last : Byte) : FrameSize.Statement (.headFrame h last) :=
  frameSize_of_none rfl

theorem FrameSize.headLineCharacter (h : Head) (character : Byte) :
    FrameSize.Statement (.headLineCharacter h character) :=
  frameSize_of_none rfl

theorem FrameSize.characterFramingError (h : Head) :
    FrameSize.Statement (.characterFramingError h) :=
  frameSize_of_none rfl

theorem FrameSize.frameBrokenOff (h : Head) : FrameSize.Statement (.frameBrokenOff h) :=
  frameSize_of_none rfl

theorem FrameSize.headTimeout (h : Head) : FrameSize.Statement (.headTimeout h) :=
  frameSize_of_none rfl

theorem FrameSize.settleCountReached (h : Head) : FrameSize.Statement (.settleCountReached h) :=
  frameSize_of_none rfl

theorem FrameSize.targetReached (h : Head) : FrameSize.Statement (.targetReached h) :=
  frameSize_of_none rfl

theorem FrameSize.settlingDeadline (h : Head) : FrameSize.Statement (.settlingDeadline h) :=
  frameSize_of_none rfl

theorem FrameSize.capDeadline (h : Head) : FrameSize.Statement (.capDeadline h) :=
  frameSize_of_none rfl

theorem FrameSize.tideEvaluationComplete : FrameSize.Statement .tideEvaluationComplete :=
  frameSize_of_none rfl

theorem FrameSize.driftApplyComplete : FrameSize.Statement .driftApplyComplete :=
  frameSize_of_none rfl

theorem FrameSize.timePulse : FrameSize.Statement .timePulse :=
  frameSize_of_none rfl

theorem FrameSize.pulseLoss : FrameSize.Statement .pulseLoss :=
  frameSize_of_none rfl

theorem FrameSize.clockHoldAtMax : FrameSize.Statement .clockHoldAtMax :=
  frameSize_of_none rfl

theorem FrameSize.partStart : FrameSize.Statement .partStart :=
  frameSize_of_none rfl

theorem FrameSize.backupLostStartup : FrameSize.Statement .backupLostStartup :=
  frameSize_of_none rfl

theorem FrameSize.resetNAssert : FrameSize.Statement .resetNAssert :=
  frameSize_of_none rfl

theorem FrameSize.vddFail : FrameSize.Statement .vddFail :=
  frameSize_of_none rfl

theorem FrameSize.backupDomainLoss : FrameSize.Statement .backupDomainLoss :=
  frameSize_of_none rfl

end Sys2Proof.Laws
end

