-- ==== Sys2Proof/Laws/State.lean ====
section
/-! SUPPORT. One lemma per field per update of the state, each true by `rfl`. -/

namespace Sys2Proof.Machine

variable (s : State)

/-! ## modifyStation -/

@[simp] theorem State.modifyStation_partition (k : Nat) (f : Station → Station) :
    (s.modifyStation k f).partition = s.partition := rfl
@[simp] theorem State.modifyStation_stations (k : Nat) (f : Station → Station) :
    (s.modifyStation k f).stations = Table.modify s.stations k f := rfl
@[simp] theorem State.modifyStation_nameIndex (k : Nat) (f : Station → Station) :
    (s.modifyStation k f).nameIndex = s.nameIndex := rfl
@[simp] theorem State.modifyStation_occupations (k : Nat) (f : Station → Station) :
    (s.modifyStation k f).occupations = s.occupations := rfl
@[simp] theorem State.modifyStation_loops (k : Nat) (f : Station → Station) :
    (s.modifyStation k f).loops = s.loops := rfl
@[simp] theorem State.modifyStation_active (k : Nat) (f : Station → Station) :
    (s.modifyStation k f).active = s.active := rfl
@[simp] theorem State.modifyStation_staged (k : Nat) (f : Station → Station) :
    (s.modifyStation k f).staged = s.staged := rfl
@[simp] theorem State.modifyStation_calGen (k : Nat) (f : Station → Station) :
    (s.modifyStation k f).calGen = s.calGen := rfl
@[simp] theorem State.modifyStation_constituents (k : Nat) (f : Station → Station) :
    (s.modifyStation k f).constituents = s.constituents := rfl
@[simp] theorem State.modifyStation_tableGen (k : Nat) (f : Station → Station) :
    (s.modifyStation k f).tableGen = s.tableGen := rfl
@[simp] theorem State.modifyStation_constants (k : Nat) (f : Station → Station) :
    (s.modifyStation k f).constants = s.constants := rfl
@[simp] theorem State.modifyStation_clock (k : Nat) (f : Station → Station) :
    (s.modifyStation k f).clock = s.clock := rfl
@[simp] theorem State.modifyStation_noticeMask (k : Nat) (f : Station → Station) :
    (s.modifyStation k f).noticeMask = s.noticeMask := rfl
@[simp] theorem State.modifyStation_backupValid (k : Nat) (f : Station → Station) :
    (s.modifyStation k f).backupValid = s.backupValid := rfl
@[simp] theorem State.modifyStation_factory (k : Nat) (f : Station → Station) :
    (s.modifyStation k f).factory = s.factory := rfl
@[simp] theorem State.modifyStation_channels (k : Nat) (f : Station → Station) :
    (s.modifyStation k f).channels = s.channels := rfl
@[simp] theorem State.modifyStation_engines (k : Nat) (f : Station → Station) :
    (s.modifyStation k f).engines = s.engines := rfl
@[simp] theorem State.modifyStation_tide (k : Nat) (f : Station → Station) :
    (s.modifyStation k f).tide = s.tide := rfl
@[simp] theorem State.modifyStation_revQueue (k : Nat) (f : Station → Station) :
    (s.modifyStation k f).revQueue = s.revQueue := rfl
@[simp] theorem State.modifyStation_inFlight (k : Nat) (f : Station → Station) :
    (s.modifyStation k f).inFlight = s.inFlight := rfl
@[simp] theorem State.modifyStation_pulse (k : Nat) (f : Station → Station) :
    (s.modifyStation k f).pulse = s.pulse := rfl
@[simp] theorem State.modifyStation_timeBase (k : Nat) (f : Station → Station) :
    (s.modifyStation k f).timeBase = s.timeBase := rfl
@[simp] theorem State.modifyStation_link (k : Nat) (f : Station → Station) :
    (s.modifyStation k f).link = s.link := rfl
@[simp] theorem State.modifyStation_lastRejected (k : Nat) (f : Station → Station) :
    (s.modifyStation k f).lastRejected = s.lastRejected := rfl
@[simp] theorem State.modifyStation_notices (k : Nat) (f : Station → Station) :
    (s.modifyStation k f).notices = s.notices := rfl
@[simp] theorem State.modifyStation_scan (k : Nat) (f : Station → Station) :
    (s.modifyStation k f).scan = s.scan := rfl
@[simp] theorem State.modifyStation_startup (k : Nat) (f : Station → Station) :
    (s.modifyStation k f).startup = s.startup := rfl
@[simp] theorem State.modifyStation_vdd (k : Nat) (f : Station → Station) :
    (s.modifyStation k f).vdd = s.vdd := rfl
@[simp] theorem State.modifyStation_resetLow (k : Nat) (f : Station → Station) :
    (s.modifyStation k f).resetLow = s.resetLow := rfl
@[simp] theorem State.modifyStation_miso (k : Nat) (f : Station → Station) :
    (s.modifyStation k f).miso = s.miso := rfl
@[simp] theorem State.modifyStation_pending (k : Nat) (f : Station → Station) :
    (s.modifyStation k f).pending = s.pending := rfl

/-! ## modifyOccupation -/

@[simp] theorem State.modifyOccupation_partition (k : Nat) (f : Occupation → Occupation) :
    (s.modifyOccupation k f).partition = s.partition := rfl
@[simp] theorem State.modifyOccupation_stations (k : Nat) (f : Occupation → Occupation) :
    (s.modifyOccupation k f).stations = s.stations := rfl
@[simp] theorem State.modifyOccupation_nameIndex (k : Nat) (f : Occupation → Occupation) :
    (s.modifyOccupation k f).nameIndex = s.nameIndex := rfl
@[simp] theorem State.modifyOccupation_occupations (k : Nat) (f : Occupation → Occupation) :
    (s.modifyOccupation k f).occupations = Table.modify s.occupations k f := rfl
@[simp] theorem State.modifyOccupation_loops (k : Nat) (f : Occupation → Occupation) :
    (s.modifyOccupation k f).loops = s.loops := rfl
@[simp] theorem State.modifyOccupation_active (k : Nat) (f : Occupation → Occupation) :
    (s.modifyOccupation k f).active = s.active := rfl
@[simp] theorem State.modifyOccupation_staged (k : Nat) (f : Occupation → Occupation) :
    (s.modifyOccupation k f).staged = s.staged := rfl
@[simp] theorem State.modifyOccupation_calGen (k : Nat) (f : Occupation → Occupation) :
    (s.modifyOccupation k f).calGen = s.calGen := rfl
@[simp] theorem State.modifyOccupation_constituents (k : Nat) (f : Occupation → Occupation) :
    (s.modifyOccupation k f).constituents = s.constituents := rfl
@[simp] theorem State.modifyOccupation_tableGen (k : Nat) (f : Occupation → Occupation) :
    (s.modifyOccupation k f).tableGen = s.tableGen := rfl
@[simp] theorem State.modifyOccupation_constants (k : Nat) (f : Occupation → Occupation) :
    (s.modifyOccupation k f).constants = s.constants := rfl
@[simp] theorem State.modifyOccupation_clock (k : Nat) (f : Occupation → Occupation) :
    (s.modifyOccupation k f).clock = s.clock := rfl
@[simp] theorem State.modifyOccupation_noticeMask (k : Nat) (f : Occupation → Occupation) :
    (s.modifyOccupation k f).noticeMask = s.noticeMask := rfl
@[simp] theorem State.modifyOccupation_backupValid (k : Nat) (f : Occupation → Occupation) :
    (s.modifyOccupation k f).backupValid = s.backupValid := rfl
@[simp] theorem State.modifyOccupation_factory (k : Nat) (f : Occupation → Occupation) :
    (s.modifyOccupation k f).factory = s.factory := rfl
@[simp] theorem State.modifyOccupation_channels (k : Nat) (f : Occupation → Occupation) :
    (s.modifyOccupation k f).channels = s.channels := rfl
@[simp] theorem State.modifyOccupation_engines (k : Nat) (f : Occupation → Occupation) :
    (s.modifyOccupation k f).engines = s.engines := rfl
@[simp] theorem State.modifyOccupation_tide (k : Nat) (f : Occupation → Occupation) :
    (s.modifyOccupation k f).tide = s.tide := rfl
@[simp] theorem State.modifyOccupation_revQueue (k : Nat) (f : Occupation → Occupation) :
    (s.modifyOccupation k f).revQueue = s.revQueue := rfl
@[simp] theorem State.modifyOccupation_inFlight (k : Nat) (f : Occupation → Occupation) :
    (s.modifyOccupation k f).inFlight = s.inFlight := rfl
@[simp] theorem State.modifyOccupation_pulse (k : Nat) (f : Occupation → Occupation) :
    (s.modifyOccupation k f).pulse = s.pulse := rfl
@[simp] theorem State.modifyOccupation_timeBase (k : Nat) (f : Occupation → Occupation) :
    (s.modifyOccupation k f).timeBase = s.timeBase := rfl
@[simp] theorem State.modifyOccupation_link (k : Nat) (f : Occupation → Occupation) :
    (s.modifyOccupation k f).link = s.link := rfl
@[simp] theorem State.modifyOccupation_lastRejected (k : Nat) (f : Occupation → Occupation) :
    (s.modifyOccupation k f).lastRejected = s.lastRejected := rfl
@[simp] theorem State.modifyOccupation_notices (k : Nat) (f : Occupation → Occupation) :
    (s.modifyOccupation k f).notices = s.notices := rfl
@[simp] theorem State.modifyOccupation_scan (k : Nat) (f : Occupation → Occupation) :
    (s.modifyOccupation k f).scan = s.scan := rfl
@[simp] theorem State.modifyOccupation_startup (k : Nat) (f : Occupation → Occupation) :
    (s.modifyOccupation k f).startup = s.startup := rfl
@[simp] theorem State.modifyOccupation_vdd (k : Nat) (f : Occupation → Occupation) :
    (s.modifyOccupation k f).vdd = s.vdd := rfl
@[simp] theorem State.modifyOccupation_resetLow (k : Nat) (f : Occupation → Occupation) :
    (s.modifyOccupation k f).resetLow = s.resetLow := rfl
@[simp] theorem State.modifyOccupation_miso (k : Nat) (f : Occupation → Occupation) :
    (s.modifyOccupation k f).miso = s.miso := rfl
@[simp] theorem State.modifyOccupation_pending (k : Nat) (f : Occupation → Occupation) :
    (s.modifyOccupation k f).pending = s.pending := rfl

/-! ## modifyLoop -/

@[simp] theorem State.modifyLoop_partition (k : Nat) (f : Loop → Loop) :
    (s.modifyLoop k f).partition = s.partition := rfl
@[simp] theorem State.modifyLoop_stations (k : Nat) (f : Loop → Loop) :
    (s.modifyLoop k f).stations = s.stations := rfl
@[simp] theorem State.modifyLoop_nameIndex (k : Nat) (f : Loop → Loop) :
    (s.modifyLoop k f).nameIndex = s.nameIndex := rfl
@[simp] theorem State.modifyLoop_occupations (k : Nat) (f : Loop → Loop) :
    (s.modifyLoop k f).occupations = s.occupations := rfl
@[simp] theorem State.modifyLoop_loops (k : Nat) (f : Loop → Loop) :
    (s.modifyLoop k f).loops = Table.modify s.loops k f := rfl
@[simp] theorem State.modifyLoop_active (k : Nat) (f : Loop → Loop) :
    (s.modifyLoop k f).active = s.active := rfl
@[simp] theorem State.modifyLoop_staged (k : Nat) (f : Loop → Loop) :
    (s.modifyLoop k f).staged = s.staged := rfl
@[simp] theorem State.modifyLoop_calGen (k : Nat) (f : Loop → Loop) :
    (s.modifyLoop k f).calGen = s.calGen := rfl
@[simp] theorem State.modifyLoop_constituents (k : Nat) (f : Loop → Loop) :
    (s.modifyLoop k f).constituents = s.constituents := rfl
@[simp] theorem State.modifyLoop_tableGen (k : Nat) (f : Loop → Loop) :
    (s.modifyLoop k f).tableGen = s.tableGen := rfl
@[simp] theorem State.modifyLoop_constants (k : Nat) (f : Loop → Loop) :
    (s.modifyLoop k f).constants = s.constants := rfl
@[simp] theorem State.modifyLoop_clock (k : Nat) (f : Loop → Loop) :
    (s.modifyLoop k f).clock = s.clock := rfl
@[simp] theorem State.modifyLoop_noticeMask (k : Nat) (f : Loop → Loop) :
    (s.modifyLoop k f).noticeMask = s.noticeMask := rfl
@[simp] theorem State.modifyLoop_backupValid (k : Nat) (f : Loop → Loop) :
    (s.modifyLoop k f).backupValid = s.backupValid := rfl
@[simp] theorem State.modifyLoop_factory (k : Nat) (f : Loop → Loop) :
    (s.modifyLoop k f).factory = s.factory := rfl
@[simp] theorem State.modifyLoop_channels (k : Nat) (f : Loop → Loop) :
    (s.modifyLoop k f).channels = s.channels := rfl
@[simp] theorem State.modifyLoop_engines (k : Nat) (f : Loop → Loop) :
    (s.modifyLoop k f).engines = s.engines := rfl
@[simp] theorem State.modifyLoop_tide (k : Nat) (f : Loop → Loop) :
    (s.modifyLoop k f).tide = s.tide := rfl
@[simp] theorem State.modifyLoop_revQueue (k : Nat) (f : Loop → Loop) :
    (s.modifyLoop k f).revQueue = s.revQueue := rfl
@[simp] theorem State.modifyLoop_inFlight (k : Nat) (f : Loop → Loop) :
    (s.modifyLoop k f).inFlight = s.inFlight := rfl
@[simp] theorem State.modifyLoop_pulse (k : Nat) (f : Loop → Loop) :
    (s.modifyLoop k f).pulse = s.pulse := rfl
@[simp] theorem State.modifyLoop_timeBase (k : Nat) (f : Loop → Loop) :
    (s.modifyLoop k f).timeBase = s.timeBase := rfl
@[simp] theorem State.modifyLoop_link (k : Nat) (f : Loop → Loop) :
    (s.modifyLoop k f).link = s.link := rfl
@[simp] theorem State.modifyLoop_lastRejected (k : Nat) (f : Loop → Loop) :
    (s.modifyLoop k f).lastRejected = s.lastRejected := rfl
@[simp] theorem State.modifyLoop_notices (k : Nat) (f : Loop → Loop) :
    (s.modifyLoop k f).notices = s.notices := rfl
@[simp] theorem State.modifyLoop_scan (k : Nat) (f : Loop → Loop) :
    (s.modifyLoop k f).scan = s.scan := rfl
@[simp] theorem State.modifyLoop_startup (k : Nat) (f : Loop → Loop) :
    (s.modifyLoop k f).startup = s.startup := rfl
@[simp] theorem State.modifyLoop_vdd (k : Nat) (f : Loop → Loop) :
    (s.modifyLoop k f).vdd = s.vdd := rfl
@[simp] theorem State.modifyLoop_resetLow (k : Nat) (f : Loop → Loop) :
    (s.modifyLoop k f).resetLow = s.resetLow := rfl
@[simp] theorem State.modifyLoop_miso (k : Nat) (f : Loop → Loop) :
    (s.modifyLoop k f).miso = s.miso := rfl
@[simp] theorem State.modifyLoop_pending (k : Nat) (f : Loop → Loop) :
    (s.modifyLoop k f).pending = s.pending := rfl

/-! ## setChannel -/

@[simp] theorem State.setChannel_partition (h : Head) (c : Channel) :
    (s.setChannel h c).partition = s.partition := rfl
@[simp] theorem State.setChannel_stations (h : Head) (c : Channel) :
    (s.setChannel h c).stations = s.stations := rfl
@[simp] theorem State.setChannel_nameIndex (h : Head) (c : Channel) :
    (s.setChannel h c).nameIndex = s.nameIndex := rfl
@[simp] theorem State.setChannel_occupations (h : Head) (c : Channel) :
    (s.setChannel h c).occupations = s.occupations := rfl
@[simp] theorem State.setChannel_loops (h : Head) (c : Channel) :
    (s.setChannel h c).loops = s.loops := rfl
@[simp] theorem State.setChannel_active (h : Head) (c : Channel) :
    (s.setChannel h c).active = s.active := rfl
@[simp] theorem State.setChannel_staged (h : Head) (c : Channel) :
    (s.setChannel h c).staged = s.staged := rfl
@[simp] theorem State.setChannel_calGen (h : Head) (c : Channel) :
    (s.setChannel h c).calGen = s.calGen := rfl
@[simp] theorem State.setChannel_constituents (h : Head) (c : Channel) :
    (s.setChannel h c).constituents = s.constituents := rfl
@[simp] theorem State.setChannel_tableGen (h : Head) (c : Channel) :
    (s.setChannel h c).tableGen = s.tableGen := rfl
@[simp] theorem State.setChannel_constants (h : Head) (c : Channel) :
    (s.setChannel h c).constants = s.constants := rfl
@[simp] theorem State.setChannel_clock (h : Head) (c : Channel) :
    (s.setChannel h c).clock = s.clock := rfl
@[simp] theorem State.setChannel_noticeMask (h : Head) (c : Channel) :
    (s.setChannel h c).noticeMask = s.noticeMask := rfl
@[simp] theorem State.setChannel_backupValid (h : Head) (c : Channel) :
    (s.setChannel h c).backupValid = s.backupValid := rfl
@[simp] theorem State.setChannel_factory (h : Head) (c : Channel) :
    (s.setChannel h c).factory = s.factory := rfl
@[simp] theorem State.setChannel_channels (h : Head) (c : Channel) :
    (s.setChannel h c).channels = s.channels.set h c := rfl
@[simp] theorem State.setChannel_engines (h : Head) (c : Channel) :
    (s.setChannel h c).engines = s.engines := rfl
@[simp] theorem State.setChannel_tide (h : Head) (c : Channel) :
    (s.setChannel h c).tide = s.tide := rfl
@[simp] theorem State.setChannel_revQueue (h : Head) (c : Channel) :
    (s.setChannel h c).revQueue = s.revQueue := rfl
@[simp] theorem State.setChannel_inFlight (h : Head) (c : Channel) :
    (s.setChannel h c).inFlight = s.inFlight := rfl
@[simp] theorem State.setChannel_pulse (h : Head) (c : Channel) :
    (s.setChannel h c).pulse = s.pulse := rfl
@[simp] theorem State.setChannel_timeBase (h : Head) (c : Channel) :
    (s.setChannel h c).timeBase = s.timeBase := rfl
@[simp] theorem State.setChannel_link (h : Head) (c : Channel) :
    (s.setChannel h c).link = s.link := rfl
@[simp] theorem State.setChannel_lastRejected (h : Head) (c : Channel) :
    (s.setChannel h c).lastRejected = s.lastRejected := rfl
@[simp] theorem State.setChannel_notices (h : Head) (c : Channel) :
    (s.setChannel h c).notices = s.notices := rfl
@[simp] theorem State.setChannel_scan (h : Head) (c : Channel) :
    (s.setChannel h c).scan = s.scan := rfl
@[simp] theorem State.setChannel_startup (h : Head) (c : Channel) :
    (s.setChannel h c).startup = s.startup := rfl
@[simp] theorem State.setChannel_vdd (h : Head) (c : Channel) :
    (s.setChannel h c).vdd = s.vdd := rfl
@[simp] theorem State.setChannel_resetLow (h : Head) (c : Channel) :
    (s.setChannel h c).resetLow = s.resetLow := rfl
@[simp] theorem State.setChannel_miso (h : Head) (c : Channel) :
    (s.setChannel h c).miso = s.miso := rfl
@[simp] theorem State.setChannel_pending (h : Head) (c : Channel) :
    (s.setChannel h c).pending = s.pending := rfl

/-! ## setEngine -/

@[simp] theorem State.setEngine_partition (h : Head) (e : Engine) :
    (s.setEngine h e).partition = s.partition := rfl
@[simp] theorem State.setEngine_stations (h : Head) (e : Engine) :
    (s.setEngine h e).stations = s.stations := rfl
@[simp] theorem State.setEngine_nameIndex (h : Head) (e : Engine) :
    (s.setEngine h e).nameIndex = s.nameIndex := rfl
@[simp] theorem State.setEngine_occupations (h : Head) (e : Engine) :
    (s.setEngine h e).occupations = s.occupations := rfl
@[simp] theorem State.setEngine_loops (h : Head) (e : Engine) :
    (s.setEngine h e).loops = s.loops := rfl
@[simp] theorem State.setEngine_active (h : Head) (e : Engine) :
    (s.setEngine h e).active = s.active := rfl
@[simp] theorem State.setEngine_staged (h : Head) (e : Engine) :
    (s.setEngine h e).staged = s.staged := rfl
@[simp] theorem State.setEngine_calGen (h : Head) (e : Engine) :
    (s.setEngine h e).calGen = s.calGen := rfl
@[simp] theorem State.setEngine_constituents (h : Head) (e : Engine) :
    (s.setEngine h e).constituents = s.constituents := rfl
@[simp] theorem State.setEngine_tableGen (h : Head) (e : Engine) :
    (s.setEngine h e).tableGen = s.tableGen := rfl
@[simp] theorem State.setEngine_constants (h : Head) (e : Engine) :
    (s.setEngine h e).constants = s.constants := rfl
@[simp] theorem State.setEngine_clock (h : Head) (e : Engine) :
    (s.setEngine h e).clock = s.clock := rfl
@[simp] theorem State.setEngine_noticeMask (h : Head) (e : Engine) :
    (s.setEngine h e).noticeMask = s.noticeMask := rfl
@[simp] theorem State.setEngine_backupValid (h : Head) (e : Engine) :
    (s.setEngine h e).backupValid = s.backupValid := rfl
@[simp] theorem State.setEngine_factory (h : Head) (e : Engine) :
    (s.setEngine h e).factory = s.factory := rfl
@[simp] theorem State.setEngine_channels (h : Head) (e : Engine) :
    (s.setEngine h e).channels = s.channels := rfl
@[simp] theorem State.setEngine_engines (h : Head) (e : Engine) :
    (s.setEngine h e).engines = s.engines.set h e := rfl
@[simp] theorem State.setEngine_tide (h : Head) (e : Engine) :
    (s.setEngine h e).tide = s.tide := rfl
@[simp] theorem State.setEngine_revQueue (h : Head) (e : Engine) :
    (s.setEngine h e).revQueue = s.revQueue := rfl
@[simp] theorem State.setEngine_inFlight (h : Head) (e : Engine) :
    (s.setEngine h e).inFlight = s.inFlight := rfl
@[simp] theorem State.setEngine_pulse (h : Head) (e : Engine) :
    (s.setEngine h e).pulse = s.pulse := rfl
@[simp] theorem State.setEngine_timeBase (h : Head) (e : Engine) :
    (s.setEngine h e).timeBase = s.timeBase := rfl
@[simp] theorem State.setEngine_link (h : Head) (e : Engine) :
    (s.setEngine h e).link = s.link := rfl
@[simp] theorem State.setEngine_lastRejected (h : Head) (e : Engine) :
    (s.setEngine h e).lastRejected = s.lastRejected := rfl
@[simp] theorem State.setEngine_notices (h : Head) (e : Engine) :
    (s.setEngine h e).notices = s.notices := rfl
@[simp] theorem State.setEngine_scan (h : Head) (e : Engine) :
    (s.setEngine h e).scan = s.scan := rfl
@[simp] theorem State.setEngine_startup (h : Head) (e : Engine) :
    (s.setEngine h e).startup = s.startup := rfl
@[simp] theorem State.setEngine_vdd (h : Head) (e : Engine) : (s.setEngine h e).vdd = s.vdd := rfl
@[simp] theorem State.setEngine_resetLow (h : Head) (e : Engine) :
    (s.setEngine h e).resetLow = s.resetLow := rfl
@[simp] theorem State.setEngine_miso (h : Head) (e : Engine) :
    (s.setEngine h e).miso = s.miso := rfl
@[simp] theorem State.setEngine_pending (h : Head) (e : Engine) :
    (s.setEngine h e).pending = s.pending := rfl

/-! ## setNotice -/

@[simp] theorem State.setNotice_partition (n : Notice) :
    (s.setNotice n).partition = s.partition := rfl
@[simp] theorem State.setNotice_stations (n : Notice) : (s.setNotice n).stations = s.stations := rfl
@[simp] theorem State.setNotice_nameIndex (n : Notice) :
    (s.setNotice n).nameIndex = s.nameIndex := rfl
@[simp] theorem State.setNotice_occupations (n : Notice) :
    (s.setNotice n).occupations = s.occupations := rfl
@[simp] theorem State.setNotice_loops (n : Notice) : (s.setNotice n).loops = s.loops := rfl
@[simp] theorem State.setNotice_active (n : Notice) : (s.setNotice n).active = s.active := rfl
@[simp] theorem State.setNotice_staged (n : Notice) : (s.setNotice n).staged = s.staged := rfl
@[simp] theorem State.setNotice_calGen (n : Notice) : (s.setNotice n).calGen = s.calGen := rfl
@[simp] theorem State.setNotice_constituents (n : Notice) :
    (s.setNotice n).constituents = s.constituents := rfl
@[simp] theorem State.setNotice_tableGen (n : Notice) : (s.setNotice n).tableGen = s.tableGen := rfl
@[simp] theorem State.setNotice_constants (n : Notice) :
    (s.setNotice n).constants = s.constants := rfl
@[simp] theorem State.setNotice_clock (n : Notice) : (s.setNotice n).clock = s.clock := rfl
@[simp] theorem State.setNotice_noticeMask (n : Notice) :
    (s.setNotice n).noticeMask = s.noticeMask := rfl
@[simp] theorem State.setNotice_backupValid (n : Notice) :
    (s.setNotice n).backupValid = s.backupValid := rfl
@[simp] theorem State.setNotice_factory (n : Notice) : (s.setNotice n).factory = s.factory := rfl
@[simp] theorem State.setNotice_channels (n : Notice) : (s.setNotice n).channels = s.channels := rfl
@[simp] theorem State.setNotice_engines (n : Notice) : (s.setNotice n).engines = s.engines := rfl
@[simp] theorem State.setNotice_tide (n : Notice) : (s.setNotice n).tide = s.tide := rfl
@[simp] theorem State.setNotice_revQueue (n : Notice) : (s.setNotice n).revQueue = s.revQueue := rfl
@[simp] theorem State.setNotice_inFlight (n : Notice) : (s.setNotice n).inFlight = s.inFlight := rfl
@[simp] theorem State.setNotice_pulse (n : Notice) : (s.setNotice n).pulse = s.pulse := rfl
@[simp] theorem State.setNotice_timeBase (n : Notice) : (s.setNotice n).timeBase = s.timeBase := rfl
@[simp] theorem State.setNotice_link (n : Notice) : (s.setNotice n).link = s.link := rfl
@[simp] theorem State.setNotice_lastRejected (n : Notice) :
    (s.setNotice n).lastRejected = s.lastRejected := rfl
@[simp] theorem State.setNotice_notices (n : Notice) :
    (s.setNotice n).notices = s.notices ||| n.flag := rfl
@[simp] theorem State.setNotice_scan (n : Notice) : (s.setNotice n).scan = s.scan := rfl
@[simp] theorem State.setNotice_startup (n : Notice) : (s.setNotice n).startup = s.startup := rfl
@[simp] theorem State.setNotice_vdd (n : Notice) : (s.setNotice n).vdd = s.vdd := rfl
@[simp] theorem State.setNotice_resetLow (n : Notice) : (s.setNotice n).resetLow = s.resetLow := rfl
@[simp] theorem State.setNotice_miso (n : Notice) : (s.setNotice n).miso = s.miso := rfl
@[simp] theorem State.setNotice_pending (n : Notice) : (s.setNotice n).pending = s.pending := rfl

/-! ## removeItems -/

@[simp] theorem State.removeItems_partition (p : RevItem → Bool) :
    (s.removeItems p).partition = s.partition := rfl
@[simp] theorem State.removeItems_stations (p : RevItem → Bool) :
    (s.removeItems p).stations = s.stations := rfl
@[simp] theorem State.removeItems_nameIndex (p : RevItem → Bool) :
    (s.removeItems p).nameIndex = s.nameIndex := rfl
@[simp] theorem State.removeItems_occupations (p : RevItem → Bool) :
    (s.removeItems p).occupations = s.occupations := rfl
@[simp] theorem State.removeItems_loops (p : RevItem → Bool) :
    (s.removeItems p).loops = s.loops := rfl
@[simp] theorem State.removeItems_active (p : RevItem → Bool) :
    (s.removeItems p).active = s.active := rfl
@[simp] theorem State.removeItems_staged (p : RevItem → Bool) :
    (s.removeItems p).staged = s.staged := rfl
@[simp] theorem State.removeItems_calGen (p : RevItem → Bool) :
    (s.removeItems p).calGen = s.calGen := rfl
@[simp] theorem State.removeItems_constituents (p : RevItem → Bool) :
    (s.removeItems p).constituents = s.constituents := rfl
@[simp] theorem State.removeItems_tableGen (p : RevItem → Bool) :
    (s.removeItems p).tableGen = s.tableGen := rfl
@[simp] theorem State.removeItems_constants (p : RevItem → Bool) :
    (s.removeItems p).constants = s.constants := rfl
@[simp] theorem State.removeItems_clock (p : RevItem → Bool) :
    (s.removeItems p).clock = s.clock := rfl
@[simp] theorem State.removeItems_noticeMask (p : RevItem → Bool) :
    (s.removeItems p).noticeMask = s.noticeMask := rfl
@[simp] theorem State.removeItems_backupValid (p : RevItem → Bool) :
    (s.removeItems p).backupValid = s.backupValid := rfl
@[simp] theorem State.removeItems_factory (p : RevItem → Bool) :
    (s.removeItems p).factory = s.factory := rfl
@[simp] theorem State.removeItems_channels (p : RevItem → Bool) :
    (s.removeItems p).channels = s.channels := rfl
@[simp] theorem State.removeItems_engines (p : RevItem → Bool) :
    (s.removeItems p).engines = s.engines := rfl
@[simp] theorem State.removeItems_tide (p : RevItem → Bool) : (s.removeItems p).tide = s.tide := rfl
@[simp] theorem State.removeItems_revQueue (p : RevItem → Bool) :
    (s.removeItems p).revQueue = s.revQueue.filter fun i => !p i := rfl
@[simp] theorem State.removeItems_inFlight (p : RevItem → Bool) :
    (s.removeItems p).inFlight = s.inFlight := rfl
@[simp] theorem State.removeItems_pulse (p : RevItem → Bool) :
    (s.removeItems p).pulse = s.pulse := rfl
@[simp] theorem State.removeItems_timeBase (p : RevItem → Bool) :
    (s.removeItems p).timeBase = s.timeBase := rfl
@[simp] theorem State.removeItems_link (p : RevItem → Bool) : (s.removeItems p).link = s.link := rfl
@[simp] theorem State.removeItems_lastRejected (p : RevItem → Bool) :
    (s.removeItems p).lastRejected = s.lastRejected := rfl
@[simp] theorem State.removeItems_notices (p : RevItem → Bool) :
    (s.removeItems p).notices = s.notices := rfl
@[simp] theorem State.removeItems_scan (p : RevItem → Bool) : (s.removeItems p).scan = s.scan := rfl
@[simp] theorem State.removeItems_startup (p : RevItem → Bool) :
    (s.removeItems p).startup = s.startup := rfl
@[simp] theorem State.removeItems_vdd (p : RevItem → Bool) : (s.removeItems p).vdd = s.vdd := rfl
@[simp] theorem State.removeItems_resetLow (p : RevItem → Bool) :
    (s.removeItems p).resetLow = s.resetLow := rfl
@[simp] theorem State.removeItems_miso (p : RevItem → Bool) : (s.removeItems p).miso = s.miso := rfl
@[simp] theorem State.removeItems_pending (p : RevItem → Bool) :
    (s.removeItems p).pending = s.pending := rfl

/-! ## respond -/

@[simp] theorem State.respond_partition (t : Byte) (a : Answer) :
    (s.respond t a).partition = s.partition := rfl
@[simp] theorem State.respond_stations (t : Byte) (a : Answer) :
    (s.respond t a).stations = s.stations := rfl
@[simp] theorem State.respond_nameIndex (t : Byte) (a : Answer) :
    (s.respond t a).nameIndex = s.nameIndex := rfl
@[simp] theorem State.respond_occupations (t : Byte) (a : Answer) :
    (s.respond t a).occupations = s.occupations := rfl
@[simp] theorem State.respond_loops (t : Byte) (a : Answer) : (s.respond t a).loops = s.loops := rfl
@[simp] theorem State.respond_active (t : Byte) (a : Answer) :
    (s.respond t a).active = s.active := rfl
@[simp] theorem State.respond_staged (t : Byte) (a : Answer) :
    (s.respond t a).staged = s.staged := rfl
@[simp] theorem State.respond_calGen (t : Byte) (a : Answer) :
    (s.respond t a).calGen = s.calGen := rfl
@[simp] theorem State.respond_constituents (t : Byte) (a : Answer) :
    (s.respond t a).constituents = s.constituents := rfl
@[simp] theorem State.respond_tableGen (t : Byte) (a : Answer) :
    (s.respond t a).tableGen = s.tableGen := rfl
@[simp] theorem State.respond_constants (t : Byte) (a : Answer) :
    (s.respond t a).constants = s.constants := rfl
@[simp] theorem State.respond_clock (t : Byte) (a : Answer) : (s.respond t a).clock = s.clock := rfl
@[simp] theorem State.respond_noticeMask (t : Byte) (a : Answer) :
    (s.respond t a).noticeMask = s.noticeMask := rfl
@[simp] theorem State.respond_backupValid (t : Byte) (a : Answer) :
    (s.respond t a).backupValid = s.backupValid := rfl
@[simp] theorem State.respond_factory (t : Byte) (a : Answer) :
    (s.respond t a).factory = s.factory := rfl
@[simp] theorem State.respond_channels (t : Byte) (a : Answer) :
    (s.respond t a).channels = s.channels := rfl
@[simp] theorem State.respond_engines (t : Byte) (a : Answer) :
    (s.respond t a).engines = s.engines := rfl
@[simp] theorem State.respond_tide (t : Byte) (a : Answer) : (s.respond t a).tide = s.tide := rfl
@[simp] theorem State.respond_revQueue (t : Byte) (a : Answer) :
    (s.respond t a).revQueue = s.revQueue := rfl
@[simp] theorem State.respond_inFlight (t : Byte) (a : Answer) :
    (s.respond t a).inFlight = s.inFlight := rfl
@[simp] theorem State.respond_pulse (t : Byte) (a : Answer) : (s.respond t a).pulse = s.pulse := rfl
@[simp] theorem State.respond_timeBase (t : Byte) (a : Answer) :
    (s.respond t a).timeBase = s.timeBase := rfl
@[simp] theorem State.respond_link (t : Byte) (a : Answer) :
    (s.respond t a).link = .answered (responseFrame t a) := rfl
@[simp] theorem State.respond_lastRejected (t : Byte) (a : Answer) :
    (s.respond t a).lastRejected = s.lastRejected := rfl
@[simp] theorem State.respond_notices (t : Byte) (a : Answer) :
    (s.respond t a).notices = s.notices := rfl
@[simp] theorem State.respond_scan (t : Byte) (a : Answer) : (s.respond t a).scan = s.scan := rfl
@[simp] theorem State.respond_startup (t : Byte) (a : Answer) :
    (s.respond t a).startup = s.startup := rfl
@[simp] theorem State.respond_vdd (t : Byte) (a : Answer) : (s.respond t a).vdd = s.vdd := rfl
@[simp] theorem State.respond_resetLow (t : Byte) (a : Answer) :
    (s.respond t a).resetLow = s.resetLow := rfl
@[simp] theorem State.respond_miso (t : Byte) (a : Answer) : (s.respond t a).miso = s.miso := rfl
@[simp] theorem State.respond_pending (t : Byte) (a : Answer) :
    (s.respond t a).pending = s.pending := rfl

/-! ## taken -/

@[simp] theorem State.taken_partition : (s.taken).partition = s.partition := rfl
@[simp] theorem State.taken_stations : (s.taken).stations = s.stations := rfl
@[simp] theorem State.taken_nameIndex : (s.taken).nameIndex = s.nameIndex := rfl
@[simp] theorem State.taken_occupations : (s.taken).occupations = s.occupations := rfl
@[simp] theorem State.taken_loops : (s.taken).loops = s.loops := rfl
@[simp] theorem State.taken_active : (s.taken).active = s.active := rfl
@[simp] theorem State.taken_staged : (s.taken).staged = s.staged := rfl
@[simp] theorem State.taken_calGen : (s.taken).calGen = s.calGen := rfl
@[simp] theorem State.taken_constituents : (s.taken).constituents = s.constituents := rfl
@[simp] theorem State.taken_tableGen : (s.taken).tableGen = s.tableGen := rfl
@[simp] theorem State.taken_constants : (s.taken).constants = s.constants := rfl
@[simp] theorem State.taken_clock : (s.taken).clock = s.clock := rfl
@[simp] theorem State.taken_noticeMask : (s.taken).noticeMask = s.noticeMask := rfl
@[simp] theorem State.taken_backupValid : (s.taken).backupValid = s.backupValid := rfl
@[simp] theorem State.taken_factory : (s.taken).factory = s.factory := rfl
@[simp] theorem State.taken_channels : (s.taken).channels = s.channels := rfl
@[simp] theorem State.taken_engines : (s.taken).engines = s.engines := rfl
@[simp] theorem State.taken_tide : (s.taken).tide = s.tide := rfl
@[simp] theorem State.taken_revQueue : (s.taken).revQueue = s.revQueue := rfl
@[simp] theorem State.taken_inFlight : (s.taken).inFlight = s.inFlight := rfl
@[simp] theorem State.taken_pulse : (s.taken).pulse = s.pulse := rfl
@[simp] theorem State.taken_timeBase : (s.taken).timeBase = s.timeBase := rfl
@[simp] theorem State.taken_link : (s.taken).link = s.link := rfl
@[simp] theorem State.taken_lastRejected : (s.taken).lastRejected = false := rfl
@[simp] theorem State.taken_notices : (s.taken).notices = s.notices := rfl
@[simp] theorem State.taken_scan : (s.taken).scan = s.scan := rfl
@[simp] theorem State.taken_startup : (s.taken).startup = s.startup := rfl
@[simp] theorem State.taken_vdd : (s.taken).vdd = s.vdd := rfl
@[simp] theorem State.taken_resetLow : (s.taken).resetLow = s.resetLow := rfl
@[simp] theorem State.taken_miso : (s.taken).miso = [s.statusByte] := rfl
@[simp] theorem State.taken_pending : (s.taken).pending = s.pending := rfl

/-! ## rejected -/

@[simp] theorem State.rejected_partition : (s.rejected).partition = s.partition := rfl
@[simp] theorem State.rejected_stations : (s.rejected).stations = s.stations := rfl
@[simp] theorem State.rejected_nameIndex : (s.rejected).nameIndex = s.nameIndex := rfl
@[simp] theorem State.rejected_occupations : (s.rejected).occupations = s.occupations := rfl
@[simp] theorem State.rejected_loops : (s.rejected).loops = s.loops := rfl
@[simp] theorem State.rejected_active : (s.rejected).active = s.active := rfl
@[simp] theorem State.rejected_staged : (s.rejected).staged = s.staged := rfl
@[simp] theorem State.rejected_calGen : (s.rejected).calGen = s.calGen := rfl
@[simp] theorem State.rejected_constituents : (s.rejected).constituents = s.constituents := rfl
@[simp] theorem State.rejected_tableGen : (s.rejected).tableGen = s.tableGen := rfl
@[simp] theorem State.rejected_constants : (s.rejected).constants = s.constants := rfl
@[simp] theorem State.rejected_clock : (s.rejected).clock = s.clock := rfl
@[simp] theorem State.rejected_noticeMask : (s.rejected).noticeMask = s.noticeMask := rfl
@[simp] theorem State.rejected_backupValid : (s.rejected).backupValid = s.backupValid := rfl
@[simp] theorem State.rejected_factory : (s.rejected).factory = s.factory := rfl
@[simp] theorem State.rejected_channels : (s.rejected).channels = s.channels := rfl
@[simp] theorem State.rejected_engines : (s.rejected).engines = s.engines := rfl
@[simp] theorem State.rejected_tide : (s.rejected).tide = s.tide := rfl
@[simp] theorem State.rejected_revQueue : (s.rejected).revQueue = s.revQueue := rfl
@[simp] theorem State.rejected_inFlight : (s.rejected).inFlight = s.inFlight := rfl
@[simp] theorem State.rejected_pulse : (s.rejected).pulse = s.pulse := rfl
@[simp] theorem State.rejected_timeBase : (s.rejected).timeBase = s.timeBase := rfl
@[simp] theorem State.rejected_link : (s.rejected).link = s.link := rfl
@[simp] theorem State.rejected_lastRejected : (s.rejected).lastRejected = true := rfl
@[simp] theorem State.rejected_notices : (s.rejected).notices = s.notices := rfl
@[simp] theorem State.rejected_scan : (s.rejected).scan = s.scan := rfl
@[simp] theorem State.rejected_startup : (s.rejected).startup = s.startup := rfl
@[simp] theorem State.rejected_vdd : (s.rejected).vdd = s.vdd := rfl
@[simp] theorem State.rejected_resetLow : (s.rejected).resetLow = s.resetLow := rfl
@[simp] theorem State.rejected_miso : (s.rejected).miso = [s.statusByte] := rfl
@[simp] theorem State.rejected_pending : (s.rejected).pending = s.pending := rfl

/-! ## resetLink -/

@[simp] theorem State.resetLink_partition : (s.resetLink).partition = s.partition := rfl
@[simp] theorem State.resetLink_stations : (s.resetLink).stations = s.stations := rfl
@[simp] theorem State.resetLink_nameIndex : (s.resetLink).nameIndex = s.nameIndex := rfl
@[simp] theorem State.resetLink_occupations : (s.resetLink).occupations = s.occupations := rfl
@[simp] theorem State.resetLink_loops : (s.resetLink).loops = s.loops := rfl
@[simp] theorem State.resetLink_active : (s.resetLink).active = s.active := rfl
@[simp] theorem State.resetLink_staged : (s.resetLink).staged = s.staged := rfl
@[simp] theorem State.resetLink_calGen : (s.resetLink).calGen = s.calGen := rfl
@[simp] theorem State.resetLink_constituents : (s.resetLink).constituents = s.constituents := rfl
@[simp] theorem State.resetLink_tableGen : (s.resetLink).tableGen = s.tableGen := rfl
@[simp] theorem State.resetLink_constants : (s.resetLink).constants = s.constants := rfl
@[simp] theorem State.resetLink_clock : (s.resetLink).clock = s.clock := rfl
@[simp] theorem State.resetLink_noticeMask : (s.resetLink).noticeMask = s.noticeMask := rfl
@[simp] theorem State.resetLink_backupValid : (s.resetLink).backupValid = s.backupValid := rfl
@[simp] theorem State.resetLink_factory : (s.resetLink).factory = s.factory := rfl
@[simp] theorem State.resetLink_channels : (s.resetLink).channels = s.channels := rfl
@[simp] theorem State.resetLink_engines : (s.resetLink).engines = s.engines := rfl
@[simp] theorem State.resetLink_tide : (s.resetLink).tide = s.tide := rfl
@[simp] theorem State.resetLink_revQueue : (s.resetLink).revQueue = s.revQueue := rfl
@[simp] theorem State.resetLink_inFlight : (s.resetLink).inFlight = s.inFlight := rfl
@[simp] theorem State.resetLink_pulse : (s.resetLink).pulse = s.pulse := rfl
@[simp] theorem State.resetLink_timeBase : (s.resetLink).timeBase = s.timeBase := rfl
@[simp] theorem State.resetLink_link : (s.resetLink).link = .idle := rfl
@[simp] theorem State.resetLink_lastRejected : (s.resetLink).lastRejected = false := rfl
@[simp] theorem State.resetLink_notices : (s.resetLink).notices = s.notices := rfl
@[simp] theorem State.resetLink_scan : (s.resetLink).scan = none := rfl
@[simp] theorem State.resetLink_startup : (s.resetLink).startup = s.startup := rfl
@[simp] theorem State.resetLink_vdd : (s.resetLink).vdd = s.vdd := rfl
@[simp] theorem State.resetLink_resetLow : (s.resetLink).resetLow = s.resetLow := rfl
@[simp] theorem State.resetLink_miso : (s.resetLink).miso = s.miso := rfl
@[simp] theorem State.resetLink_pending : (s.resetLink).pending = s.pending := rfl

/-! ## setTime -/

@[simp] theorem State.setTime_partition (t : TimeMs) : (s.setTime t).partition = s.partition := rfl
@[simp] theorem State.setTime_stations (t : TimeMs) : (s.setTime t).stations = s.stations := rfl
@[simp] theorem State.setTime_nameIndex (t : TimeMs) : (s.setTime t).nameIndex = s.nameIndex := rfl
@[simp] theorem State.setTime_occupations (t : TimeMs) :
    (s.setTime t).occupations = s.occupations := rfl
@[simp] theorem State.setTime_loops (t : TimeMs) : (s.setTime t).loops = s.loops := rfl
@[simp] theorem State.setTime_active (t : TimeMs) : (s.setTime t).active = s.active := rfl
@[simp] theorem State.setTime_staged (t : TimeMs) : (s.setTime t).staged = s.staged := rfl
@[simp] theorem State.setTime_calGen (t : TimeMs) : (s.setTime t).calGen = s.calGen := rfl
@[simp] theorem State.setTime_constituents (t : TimeMs) :
    (s.setTime t).constituents = s.constituents := rfl
@[simp] theorem State.setTime_tableGen (t : TimeMs) : (s.setTime t).tableGen = s.tableGen := rfl
@[simp] theorem State.setTime_constants (t : TimeMs) : (s.setTime t).constants = s.constants := rfl
@[simp] theorem State.setTime_clock (t : TimeMs) : (s.setTime t).clock = some t := rfl
@[simp] theorem State.setTime_noticeMask (t : TimeMs) :
    (s.setTime t).noticeMask = s.noticeMask := rfl
@[simp] theorem State.setTime_backupValid (t : TimeMs) :
    (s.setTime t).backupValid = s.backupValid := rfl
@[simp] theorem State.setTime_factory (t : TimeMs) : (s.setTime t).factory = s.factory := rfl
@[simp] theorem State.setTime_channels (t : TimeMs) : (s.setTime t).channels = s.channels := rfl
@[simp] theorem State.setTime_engines (t : TimeMs) : (s.setTime t).engines = s.engines := rfl
@[simp] theorem State.setTime_tide (t : TimeMs) : (s.setTime t).tide = s.tide := rfl
@[simp] theorem State.setTime_revQueue (t : TimeMs) : (s.setTime t).revQueue = s.revQueue := rfl
@[simp] theorem State.setTime_inFlight (t : TimeMs) : (s.setTime t).inFlight = s.inFlight := rfl
@[simp] theorem State.setTime_pulse (t : TimeMs) :
    (s.setTime t).pulse = { s.pulse with pendingSet := none } := rfl
@[simp] theorem State.setTime_timeBase (t : TimeMs) : (s.setTime t).timeBase = s.timeBase := rfl
@[simp] theorem State.setTime_link (t : TimeMs) : (s.setTime t).link = s.link := rfl
@[simp] theorem State.setTime_lastRejected (t : TimeMs) :
    (s.setTime t).lastRejected = s.lastRejected := rfl
@[simp] theorem State.setTime_notices (t : TimeMs) : (s.setTime t).notices = s.notices := rfl
@[simp] theorem State.setTime_scan (t : TimeMs) : (s.setTime t).scan = s.scan := rfl
@[simp] theorem State.setTime_startup (t : TimeMs) : (s.setTime t).startup = s.startup := rfl
@[simp] theorem State.setTime_vdd (t : TimeMs) : (s.setTime t).vdd = s.vdd := rfl
@[simp] theorem State.setTime_resetLow (t : TimeMs) : (s.setTime t).resetLow = s.resetLow := rfl
@[simp] theorem State.setTime_miso (t : TimeMs) : (s.setTime t).miso = s.miso := rfl
@[simp] theorem State.setTime_pending (t : TimeMs) : (s.setTime t).pending = s.pending := rfl

/-! ## fetch -/

@[simp] theorem State.fetch_partition (n : Nat) : (s.fetch n).partition = s.partition := rfl
@[simp] theorem State.fetch_stations (n : Nat) : (s.fetch n).stations = s.stations := rfl
@[simp] theorem State.fetch_nameIndex (n : Nat) : (s.fetch n).nameIndex = s.nameIndex := rfl
@[simp] theorem State.fetch_occupations (n : Nat) : (s.fetch n).occupations = s.occupations := rfl
@[simp] theorem State.fetch_loops (n : Nat) : (s.fetch n).loops = s.loops := rfl
@[simp] theorem State.fetch_active (n : Nat) : (s.fetch n).active = s.active := rfl
@[simp] theorem State.fetch_staged (n : Nat) : (s.fetch n).staged = s.staged := rfl
@[simp] theorem State.fetch_calGen (n : Nat) : (s.fetch n).calGen = s.calGen := rfl
@[simp] theorem State.fetch_constituents (n : Nat) :
    (s.fetch n).constituents = s.constituents := rfl
@[simp] theorem State.fetch_tableGen (n : Nat) : (s.fetch n).tableGen = s.tableGen := rfl
@[simp] theorem State.fetch_constants (n : Nat) : (s.fetch n).constants = s.constants := rfl
@[simp] theorem State.fetch_clock (n : Nat) : (s.fetch n).clock = s.clock := rfl
@[simp] theorem State.fetch_noticeMask (n : Nat) : (s.fetch n).noticeMask = s.noticeMask := rfl
@[simp] theorem State.fetch_backupValid (n : Nat) : (s.fetch n).backupValid = s.backupValid := rfl
@[simp] theorem State.fetch_factory (n : Nat) : (s.fetch n).factory = s.factory := rfl
@[simp] theorem State.fetch_channels (n : Nat) : (s.fetch n).channels = s.channels := rfl
@[simp] theorem State.fetch_engines (n : Nat) : (s.fetch n).engines = s.engines := rfl
@[simp] theorem State.fetch_tide (n : Nat) : (s.fetch n).tide = s.tide := rfl
@[simp] theorem State.fetch_revQueue (n : Nat) : (s.fetch n).revQueue = s.revQueue := rfl
@[simp] theorem State.fetch_inFlight (n : Nat) : (s.fetch n).inFlight = s.inFlight := rfl
@[simp] theorem State.fetch_pulse (n : Nat) : (s.fetch n).pulse = s.pulse := rfl
@[simp] theorem State.fetch_timeBase (n : Nat) : (s.fetch n).timeBase = s.timeBase := rfl
@[simp] theorem State.fetch_link (n : Nat) : (s.fetch n).link = s.link.fetched n := rfl
@[simp] theorem State.fetch_lastRejected (n : Nat) :
    (s.fetch n).lastRejected = s.lastRejected := rfl
@[simp] theorem State.fetch_notices (n : Nat) : (s.fetch n).notices = s.notices := rfl
@[simp] theorem State.fetch_scan (n : Nat) : (s.fetch n).scan = s.scan := rfl
@[simp] theorem State.fetch_startup (n : Nat) : (s.fetch n).startup = s.startup := rfl
@[simp] theorem State.fetch_vdd (n : Nat) : (s.fetch n).vdd = s.vdd := rfl
@[simp] theorem State.fetch_resetLow (n : Nat) : (s.fetch n).resetLow = s.resetLow := rfl
@[simp] theorem State.fetch_miso (n : Nat) :
    (s.fetch n).miso = s.statusByte :: shiftedOut n s.link.waiting := rfl
@[simp] theorem State.fetch_pending (n : Nat) : (s.fetch n).pending = s.pending := rfl

/-! ## interrupt -/

@[simp] theorem State.interrupt_partition : (s.interrupt).partition = s.partition := rfl
@[simp] theorem State.interrupt_stations : (s.interrupt).stations = s.stations := rfl
@[simp] theorem State.interrupt_nameIndex : (s.interrupt).nameIndex = s.nameIndex := rfl
@[simp] theorem State.interrupt_loops : (s.interrupt).loops = s.loops := rfl
@[simp] theorem State.interrupt_active : (s.interrupt).active = s.active := rfl
@[simp] theorem State.interrupt_staged : (s.interrupt).staged = s.staged := rfl
@[simp] theorem State.interrupt_calGen : (s.interrupt).calGen = s.calGen := rfl
@[simp] theorem State.interrupt_constituents : (s.interrupt).constituents = s.constituents := rfl
@[simp] theorem State.interrupt_tableGen : (s.interrupt).tableGen = s.tableGen := rfl
@[simp] theorem State.interrupt_constants : (s.interrupt).constants = s.constants := rfl
@[simp] theorem State.interrupt_clock : (s.interrupt).clock = s.clock := rfl
@[simp] theorem State.interrupt_noticeMask : (s.interrupt).noticeMask = s.noticeMask := rfl
@[simp] theorem State.interrupt_backupValid : (s.interrupt).backupValid = s.backupValid := rfl
@[simp] theorem State.interrupt_factory : (s.interrupt).factory = s.factory := rfl
@[simp] theorem State.interrupt_channels : (s.interrupt).channels = s.channels := rfl
@[simp] theorem State.interrupt_engines : (s.interrupt).engines = s.engines := rfl
@[simp] theorem State.interrupt_tide : (s.interrupt).tide = s.tide := rfl
@[simp] theorem State.interrupt_revQueue : (s.interrupt).revQueue = s.revQueue := rfl
@[simp] theorem State.interrupt_inFlight : (s.interrupt).inFlight = s.inFlight := rfl
@[simp] theorem State.interrupt_pulse : (s.interrupt).pulse = s.pulse := rfl
@[simp] theorem State.interrupt_timeBase : (s.interrupt).timeBase = s.timeBase := rfl
@[simp] theorem State.interrupt_link : (s.interrupt).link = s.link := rfl
@[simp] theorem State.interrupt_lastRejected : (s.interrupt).lastRejected = s.lastRejected := rfl
@[simp] theorem State.interrupt_notices : (s.interrupt).notices = s.notices := rfl
@[simp] theorem State.interrupt_scan : (s.interrupt).scan = s.scan := rfl
@[simp] theorem State.interrupt_startup : (s.interrupt).startup = s.startup := rfl
@[simp] theorem State.interrupt_vdd : (s.interrupt).vdd = s.vdd := rfl
@[simp] theorem State.interrupt_resetLow : (s.interrupt).resetLow = s.resetLow := rfl
@[simp] theorem State.interrupt_miso : (s.interrupt).miso = s.miso := rfl
@[simp] theorem State.interrupt_pending : (s.interrupt).pending = s.pending := rfl

/-! ## resetMain -/

@[simp] theorem State.resetMain_partition : (s.resetMain).partition = s.partition := rfl
@[simp] theorem State.resetMain_stations : (s.resetMain).stations = s.stations := rfl
@[simp] theorem State.resetMain_nameIndex : (s.resetMain).nameIndex = s.nameIndex := rfl
@[simp] theorem State.resetMain_occupations : (s.resetMain).occupations = s.occupations := rfl
@[simp] theorem State.resetMain_loops : (s.resetMain).loops = s.loops := rfl
@[simp] theorem State.resetMain_active : (s.resetMain).active = s.active := rfl
@[simp] theorem State.resetMain_staged : (s.resetMain).staged = s.staged := rfl
@[simp] theorem State.resetMain_calGen : (s.resetMain).calGen = s.calGen := rfl
@[simp] theorem State.resetMain_constituents : (s.resetMain).constituents = s.constituents := rfl
@[simp] theorem State.resetMain_tableGen : (s.resetMain).tableGen = s.tableGen := rfl
@[simp] theorem State.resetMain_constants : (s.resetMain).constants = s.constants := rfl
@[simp] theorem State.resetMain_clock : (s.resetMain).clock = s.clock := rfl
@[simp] theorem State.resetMain_noticeMask : (s.resetMain).noticeMask = s.noticeMask := rfl
@[simp] theorem State.resetMain_backupValid : (s.resetMain).backupValid = s.backupValid := rfl
@[simp] theorem State.resetMain_factory : (s.resetMain).factory = s.factory := rfl
@[simp] theorem State.resetMain_channels : (s.resetMain).channels = perHead .reset := rfl
@[simp] theorem State.resetMain_engines : (s.resetMain).engines = perHead .idle := rfl
@[simp] theorem State.resetMain_tide : (s.resetMain).tide = .reset := rfl
@[simp] theorem State.resetMain_revQueue : (s.resetMain).revQueue = [] := rfl
@[simp] theorem State.resetMain_inFlight : (s.resetMain).inFlight = none := rfl
@[simp] theorem State.resetMain_pulse : (s.resetMain).pulse = .reset := rfl
@[simp] theorem State.resetMain_timeBase : (s.resetMain).timeBase = 0 := rfl
@[simp] theorem State.resetMain_link : (s.resetMain).link = .idle := rfl
@[simp] theorem State.resetMain_lastRejected : (s.resetMain).lastRejected = false := rfl
@[simp] theorem State.resetMain_notices : (s.resetMain).notices = 0 := rfl
@[simp] theorem State.resetMain_scan : (s.resetMain).scan = none := rfl
@[simp] theorem State.resetMain_startup : (s.resetMain).startup = false := rfl
@[simp] theorem State.resetMain_vdd : (s.resetMain).vdd = s.vdd := rfl
@[simp] theorem State.resetMain_resetLow : (s.resetMain).resetLow = s.resetLow := rfl
@[simp] theorem State.resetMain_miso : (s.resetMain).miso = [] := rfl
@[simp] theorem State.resetMain_pending : (s.resetMain).pending = s.pending := rfl

/-! ## loseBackup -/

@[simp] theorem State.loseBackup_partition : (s.loseBackup).partition = .a := rfl
@[simp] theorem State.loseBackup_stations : (s.loseBackup).stations = [] := rfl
@[simp] theorem State.loseBackup_nameIndex : (s.loseBackup).nameIndex = [] := rfl
@[simp] theorem State.loseBackup_occupations : (s.loseBackup).occupations = [] := rfl
@[simp] theorem State.loseBackup_loops : (s.loseBackup).loops = [] := rfl
@[simp] theorem State.loseBackup_active : (s.loseBackup).active = perHead calibrationTemplate := rfl
@[simp] theorem State.loseBackup_staged : (s.loseBackup).staged = perHead none := rfl
@[simp] theorem State.loseBackup_calGen : (s.loseBackup).calGen = perHead 0 := rfl
@[simp] theorem State.loseBackup_constituents :
    (s.loseBackup).constituents = disabledConstituents := rfl
@[simp] theorem State.loseBackup_tableGen : (s.loseBackup).tableGen = 0 := rfl
@[simp] theorem State.loseBackup_constants : (s.loseBackup).constants = defaultConstants := rfl
@[simp] theorem State.loseBackup_clock : (s.loseBackup).clock = none := rfl
@[simp] theorem State.loseBackup_noticeMask : (s.loseBackup).noticeMask = BitVec.allOnes 19 := rfl
@[simp] theorem State.loseBackup_backupValid : (s.loseBackup).backupValid = false := rfl
@[simp] theorem State.loseBackup_factory : (s.loseBackup).factory = s.factory := rfl
@[simp] theorem State.loseBackup_channels : (s.loseBackup).channels = s.channels := rfl
@[simp] theorem State.loseBackup_engines : (s.loseBackup).engines = s.engines := rfl
@[simp] theorem State.loseBackup_tide : (s.loseBackup).tide = s.tide := rfl
@[simp] theorem State.loseBackup_revQueue : (s.loseBackup).revQueue = s.revQueue := rfl
@[simp] theorem State.loseBackup_inFlight : (s.loseBackup).inFlight = s.inFlight := rfl
@[simp] theorem State.loseBackup_pulse : (s.loseBackup).pulse = s.pulse := rfl
@[simp] theorem State.loseBackup_timeBase : (s.loseBackup).timeBase = s.timeBase := rfl
@[simp] theorem State.loseBackup_link : (s.loseBackup).link = s.link := rfl
@[simp] theorem State.loseBackup_lastRejected : (s.loseBackup).lastRejected = s.lastRejected := rfl
@[simp] theorem State.loseBackup_notices : (s.loseBackup).notices = s.notices := rfl
@[simp] theorem State.loseBackup_scan : (s.loseBackup).scan = s.scan := rfl
@[simp] theorem State.loseBackup_startup : (s.loseBackup).startup = s.startup := rfl
@[simp] theorem State.loseBackup_vdd : (s.loseBackup).vdd = s.vdd := rfl
@[simp] theorem State.loseBackup_resetLow : (s.loseBackup).resetLow = s.resetLow := rfl
@[simp] theorem State.loseBackup_miso : (s.loseBackup).miso = s.miso := rfl
@[simp] theorem State.loseBackup_pending : (s.loseBackup).pending = s.pending := rfl

/-! ## withPending -/

@[simp] theorem State.withPending_partition (r : List Instr) :
    (s.withPending r).partition = s.partition := rfl
@[simp] theorem State.withPending_stations (r : List Instr) :
    (s.withPending r).stations = s.stations := rfl
@[simp] theorem State.withPending_nameIndex (r : List Instr) :
    (s.withPending r).nameIndex = s.nameIndex := rfl
@[simp] theorem State.withPending_occupations (r : List Instr) :
    (s.withPending r).occupations = s.occupations := rfl
@[simp] theorem State.withPending_loops (r : List Instr) : (s.withPending r).loops = s.loops := rfl
@[simp] theorem State.withPending_active (r : List Instr) :
    (s.withPending r).active = s.active := rfl
@[simp] theorem State.withPending_staged (r : List Instr) :
    (s.withPending r).staged = s.staged := rfl
@[simp] theorem State.withPending_calGen (r : List Instr) :
    (s.withPending r).calGen = s.calGen := rfl
@[simp] theorem State.withPending_constituents (r : List Instr) :
    (s.withPending r).constituents = s.constituents := rfl
@[simp] theorem State.withPending_tableGen (r : List Instr) :
    (s.withPending r).tableGen = s.tableGen := rfl
@[simp] theorem State.withPending_constants (r : List Instr) :
    (s.withPending r).constants = s.constants := rfl
@[simp] theorem State.withPending_clock (r : List Instr) : (s.withPending r).clock = s.clock := rfl
@[simp] theorem State.withPending_noticeMask (r : List Instr) :
    (s.withPending r).noticeMask = s.noticeMask := rfl
@[simp] theorem State.withPending_backupValid (r : List Instr) :
    (s.withPending r).backupValid = s.backupValid := rfl
@[simp] theorem State.withPending_factory (r : List Instr) :
    (s.withPending r).factory = s.factory := rfl
@[simp] theorem State.withPending_channels (r : List Instr) :
    (s.withPending r).channels = s.channels := rfl
@[simp] theorem State.withPending_engines (r : List Instr) :
    (s.withPending r).engines = s.engines := rfl
@[simp] theorem State.withPending_tide (r : List Instr) : (s.withPending r).tide = s.tide := rfl
@[simp] theorem State.withPending_revQueue (r : List Instr) :
    (s.withPending r).revQueue = s.revQueue := rfl
@[simp] theorem State.withPending_inFlight (r : List Instr) :
    (s.withPending r).inFlight = s.inFlight := rfl
@[simp] theorem State.withPending_pulse (r : List Instr) : (s.withPending r).pulse = s.pulse := rfl
@[simp] theorem State.withPending_timeBase (r : List Instr) :
    (s.withPending r).timeBase = s.timeBase := rfl
@[simp] theorem State.withPending_link (r : List Instr) : (s.withPending r).link = s.link := rfl
@[simp] theorem State.withPending_lastRejected (r : List Instr) :
    (s.withPending r).lastRejected = s.lastRejected := rfl
@[simp] theorem State.withPending_notices (r : List Instr) :
    (s.withPending r).notices = s.notices := rfl
@[simp] theorem State.withPending_scan (r : List Instr) : (s.withPending r).scan = s.scan := rfl
@[simp] theorem State.withPending_startup (r : List Instr) :
    (s.withPending r).startup = s.startup := rfl
@[simp] theorem State.withPending_vdd (r : List Instr) : (s.withPending r).vdd = s.vdd := rfl
@[simp] theorem State.withPending_resetLow (r : List Instr) :
    (s.withPending r).resetLow = s.resetLow := rfl
@[simp] theorem State.withPending_miso (r : List Instr) : (s.withPending r).miso = s.miso := rfl
@[simp] theorem State.withPending_pending (r : List Instr) : (s.withPending r).pending = r := rfl

/-! ## Per-head values -/

@[simp] theorem PerHead.get_set_same {α : Type} (p : PerHead α) (h : Head) (a : α) :
    (p.set h a).get h = a := by
  cases h <;> rfl

@[simp] theorem PerHead.get_set_other {α : Type} (p : PerHead α) {h h' : Head} (a : α)
    (hne : h' ≠ h) : (p.set h a).get h' = p.get h' := by
  cases h <;> cases h' <;> first | rfl | exact absurd rfl hne

@[simp] theorem get_perHead {α : Type} (a : α) (h : Head) : (perHead a).get h = a := by
  cases h <;> rfl

theorem PerHead.get_set {α : Type} (p : PerHead α) (h h' : Head) (a : α) :
    (p.set h a).get h' = if h' = h then a else p.get h' := by
  cases h <;> cases h' <;> rfl

end Sys2Proof.Machine
end

