-- ==== Sys2Proof/Laws/Step.lean ====
section
/-! SUPPORT. Every command is answered with a next state: nothing stops the part (R183, R186). -/

namespace Sys2Proof.Machine

/-- No command faults or is refused. -/
theorem exec_answers (c : Instr) (s : State) : ∃ t, exec c s = .next t := by
  cases c <;> exact ⟨_, rfl⟩

/-- No step faults or is refused. -/
theorem step_answers (s : State) : ∃ t, step s = .next t := by
  unfold step
  split
  · exact ⟨_, rfl⟩
  · exact exec_answers _ _

end Sys2Proof.Machine
end

