-- ==== Sys2Proof/Laws/Tables.lean ====
section
/-! SUPPORT. What each table operation does, and that each keeps the canonical form. -/

namespace Sys2Proof.Machine

namespace Table

variable {α : Type}

@[simp] theorem get_nil (k : Nat) : get ([] : Table α) k = none := rfl

theorem get_cons (e : Nat × α) (t : Table α) (k : Nat) :
    get (e :: t) k = if k = e.1 then some e.2 else get t k := rfl

/-- A record just put is read back; the others read as before. -/
theorem get_put (t : Table α) (k k' : Nat) (v : α) :
    get (put t k v) k' = if k' = k then some v else get t k' := by
  induction t with
  | nil => rfl
  | cons e t ih =>
    simp only [put]
    split
    · simp [get_cons]
    · split
      · next h => subst h; simp only [get_cons]; split <;> rfl
      · next h1 h2 =>
        simp only [get_cons, ih]
        by_cases hk : k' = k
        · simp [hk, h2]
        · simp [hk]

/-- A deleted record is FREE; the others read as before. -/
theorem get_del (t : Table α) (k k' : Nat) :
    get (del t k) k' = if k' = k then none else get t k' := by
  induction t with
  | nil => simp [del]
  | cons e t ih =>
    simp only [del, List.filter_cons] at ih ⊢
    by_cases he : e.1 = k
    · simp only [he, bne_self_eq_false, Bool.false_eq_true, if_false, ih, get_cons]
      by_cases hk : k' = k <;> simp [hk]
    · simp only [bne_iff_ne, ne_eq, he, not_false_eq_true, if_true, get_cons, ih]
      by_cases hk : k' = k
      · subst hk; simp [Ne.symm he]
      · simp [hk]

/-- Only the modified record changes. -/
theorem get_modify (t : Table α) (k k' : Nat) (f : α → α) :
    get (modify t k f) k' = if k' = k then (get t k').map f else get t k' := by
  induction t with
  | nil => simp [modify]
  | cons e t ih =>
    simp only [modify, List.map_cons, get_cons] at ih ⊢
    by_cases hk : k' = e.1
    · subst hk
      by_cases he : e.1 = k <;> simp_all
    · by_cases he : e.1 = k
      · simp_all
      · simp only [he, if_false, hk, ih]

/-- Only the records of the given keys change. -/
theorem get_modifyKeys (t : Table α) (ks : List Nat) (k' : Nat) (f : α → α) :
    get (modifyKeys t ks f) k' = if k' ∈ ks then (get t k').map f else get t k' := by
  induction t with
  | nil => simp [modifyKeys]
  | cons e t ih =>
    simp only [modifyKeys, List.map_cons, get_cons] at ih ⊢
    by_cases he : e.1 ∈ ks <;> by_cases hk : k' = e.1 <;> simp_all

/-- Every record changes alike. -/
theorem get_modifyAll (t : Table α) (k : Nat) (f : α → α) :
    get (modifyAll t f) k = (get t k).map f := by
  induction t with
  | nil => rfl
  | cons e t ih =>
    simp only [modifyAll, List.map_cons, get_cons] at ih ⊢
    split <;> simp_all

/-! ## Keys -/

@[simp] theorem keys_modify (t : Table α) (k : Nat) (f : α → α) :
    (modify t k f).map (·.1) = t.map (·.1) := by
  simp only [modify, List.map_map]
  exact List.map_congr_left fun e _ => by simp only [Function.comp]; split <;> rfl

@[simp] theorem keys_modifyKeys (t : Table α) (ks : List Nat) (f : α → α) :
    (modifyKeys t ks f).map (·.1) = t.map (·.1) := by
  simp only [modifyKeys, List.map_map]
  exact List.map_congr_left fun e _ => by simp only [Function.comp]; split <;> rfl

@[simp] theorem keys_modifyAll (t : Table α) (f : α → α) :
    (modifyAll t f).map (·.1) = t.map (·.1) := by
  simp only [modifyAll, List.map_map]; rfl

theorem mem_keys_put (t : Table α) (k x : Nat) (v : α) :
    x ∈ (put t k v).map (·.1) ↔ x = k ∨ x ∈ t.map (·.1) := by
  induction t with
  | nil => simp [put]
  | cons e t ih =>
    simp only [put]
    split
    · simp
    · split
      · next h => subst h; simp
      · simp only [List.map_cons, List.mem_cons, ih]; tauto

/-- In a table in canonical form a listed record is the one that is read. -/
theorem get_of_mem {t : Table α} (h : wf t) {k : Nat} {v : α} (hm : (k, v) ∈ t) :
    get t k = some v := by
  induction t with
  | nil => cases hm
  | cons e t ih =>
    simp only [wf, List.map_cons, List.pairwise_cons] at h
    rcases List.mem_cons.1 hm with rfl | hm
    · simp [get_cons]
    · have hlt := h.1 k (List.mem_map.2 ⟨(k, v), hm, rfl⟩)
      simp [get_cons, Nat.ne_of_gt hlt, ih h.2 hm]

/-- A record that is read is listed. -/
theorem mem_of_get {t : Table α} {k : Nat} {v : α} (h : get t k = some v) : (k, v) ∈ t := by
  induction t with
  | nil => cases h
  | cons e t ih =>
    rw [get_cons] at h
    split at h
    · next hk => cases h; subst hk; exact List.mem_cons_self
    · exact List.mem_cons_of_mem _ (ih h)

/-- What holds of every entry holds of every record read. -/
theorem forall_get {t : Table α} {P : Nat → α → Prop} (h : ∀ e ∈ t, P e.1 e.2) (k : Nat) (v : α)
    (hg : get t k = some v) : P k v :=
  h (k, v) (mem_of_get hg)

/-- The keys a test selects, in a table in canonical form. -/
theorem mem_keysWhere {t : Table α} (h : wf t) (p : α → Bool) (k : Nat) :
    k ∈ keysWhere t p ↔ ∃ v, get t k = some v ∧ p v = true := by
  simp only [keysWhere, List.mem_map, List.mem_filter]
  constructor
  · rintro ⟨e, ⟨hm, hp⟩, rfl⟩
    exact ⟨e.2, get_of_mem h hm, hp⟩
  · rintro ⟨v, hg, hp⟩
    exact ⟨(k, v), ⟨mem_of_get hg, hp⟩, rfl⟩

/-! ## The canonical form is kept -/

/-- With a record at every key below the limit none is FREE. -/
theorem firstFree_of_full {t : Table α} {limit : Nat} (h : ∀ k, k < limit → (get t k).isSome = true) :
    firstFree t limit = none := by
  have go : ∀ n k, k + n ≤ limit → firstFreeFrom t n k = none := by
    intro n
    induction n with
    | zero => intros; rfl
    | succ n ih =>
      intro k hk
      have := h k (by omega)
      rw [firstFreeFrom, if_neg (by simpa [Option.isNone_iff_eq_none, Option.isSome_iff_ne_none] using this)]
      exact ih (k + 1) (by omega)
  exact go limit 0 (by omega)

theorem wf_nil : wf ([] : Table α) := List.Pairwise.nil

theorem wf_put {t : Table α} (h : wf t) (k : Nat) (v : α) : wf (put t k v) := by
  induction t with
  | nil => simp [put, wf]
  | cons e t ih =>
    simp only [wf, List.map_cons, List.pairwise_cons] at h
    simp only [put]
    split
    · next hk =>
      simp only [wf, List.map_cons, List.pairwise_cons, List.mem_cons]
      refine ⟨?_, h.1, h.2⟩
      rintro x (rfl | hx)
      · exact hk
      · exact Nat.lt_trans hk (h.1 x hx)
    · split
      · next hk => subst hk; exact List.pairwise_cons.2 ⟨h.1, h.2⟩
      · next h1 h2 =>
        simp only [wf, List.map_cons, List.pairwise_cons, mem_keys_put]
        refine ⟨?_, ih h.2⟩
        rintro x (rfl | hx)
        · omega
        · exact h.1 x hx

theorem wf_filter {t : Table α} (h : wf t) (p : Nat × α → Bool) : wf (t.filter p) :=
  List.Pairwise.sublist ((List.filter_sublist (p := p)).map _) h

theorem wf_del {t : Table α} (h : wf t) (k : Nat) : wf (del t k) := wf_filter h _

theorem wf_modify {t : Table α} (h : wf t) (k : Nat) (f : α → α) : wf (modify t k f) := by
  simpa [wf] using h

theorem wf_modifyKeys {t : Table α} (h : wf t) (ks : List Nat) (f : α → α) :
    wf (modifyKeys t ks f) := by
  simpa [wf] using h

theorem wf_modifyAll {t : Table α} (h : wf t) (f : α → α) : wf (modifyAll t f) := by
  simpa [wf] using h

end Table

end Sys2Proof.Machine
end

