-- ==== Sys2Proof/Laws/TideSlots.lean ====
section
/-! SUPPORT. Laws of the Tide Engine's slots: reading a slot after a write, and what the free engine
chooses. -/

namespace Sys2Proof.Machine

@[simp] theorem TideEngine.slot_setSlot_self (t : TideEngine) (src : TideSource) (x : Slot) :
    (t.setSlot src x).slot src = x := by
  cases src with
  | revision => rfl
  | head h => cases h <;> rfl

theorem TideEngine.slot_setSlot_of_ne (t : TideEngine) {src src' : TideSource} (x : Slot)
    (h : src' ≠ src) : (t.setSlot src x).slot src' = t.slot src' := by
  cases src with
  | revision =>
    cases src' with
    | revision => exact absurd rfl h
    | head h' => rfl
  | head k =>
    cases src' with
    | revision => rfl
    | head k' => cases k <;> cases k' <;> first | exact absurd rfl h | rfl

@[simp] theorem TideEngine.placed_setSlot (t : TideEngine) (src : TideSource) (x : Slot) :
    (t.setSlot src x).placed = t.placed := by cases src <;> rfl

@[simp] theorem TideEngine.evaluation_setSlot (t : TideEngine) (src : TideSource) (x : Slot) :
    (t.setSlot src x).evaluation = t.evaluation := by cases src <;> rfl

theorem TideEngine.waiting_eq_some {t : TideEngine} {src src' : TideSource} {r : TideRequest} :
    t.waiting src = some (src', r) ↔ src' = src ∧ t.slot src = .waiting r := by
  unfold TideEngine.waiting
  split
  · next h => simp [h, eq_comm]
  · next h =>
    simp only [reduceCtorEq, false_iff, not_and]
    exact fun _ hr => h _ hr

/-- What the engine chooses is WAITING in its source's slot; a head's choice stands in the placement
order (R103). -/
theorem TideEngine.choose_spec {t : TideEngine} {src : TideSource} {r : TideRequest}
    (h : t.choose = some (src, r)) :
    t.slot src = .waiting r ∧ (src = .revision ∨ src ∈ t.placed) := by
  unfold TideEngine.choose at h
  rcases Option.or_eq_some_iff.mp h with h | ⟨-, h⟩
  · obtain ⟨y, hy, hw⟩ := List.exists_of_findSome?_eq_some h
    cases y with
    | revision => simp [TideEngine.waitingHead] at hw
    | head k =>
      obtain ⟨rfl, hr⟩ := TideEngine.waiting_eq_some.mp hw
      exact ⟨hr, .inr hy⟩
  · obtain ⟨rfl, hr⟩ := TideEngine.waiting_eq_some.mp h
    exact ⟨hr, .inl rfl⟩

end Sys2Proof.Machine
end

