-- ==== Sys2Proof/Tests/Slice0.lean ====
section
/-! SUPPORT. Tests of the model: the checks of WellFormed, the worked examples of spec/ (each cites its
heading), and for every statement with hypotheses a state that meets them. -/

namespace Sys2Proof.Tests

open Sys2Proof Sys2Proof.Machine

/-- The state a command leads to. -/
def after (c : Instr) (s : State) : State :=
  match exec c s with
  | .next t => t
  | _ => s

/-! ## WellFormed: an ill-formed term for each check -/

theorem test_oversize_payload_refused :
    (Instr.readStatus 1 (List.replicate 513 0)).wellFormed = false := by decide +kernel

theorem test_unknownRequest_needs_unknown_code :
    (Instr.unknownRequest 29 1 []).wellFormed = false
      ∧ (Instr.unknownRequest 33 1 (List.replicate 513 0)).wellFormed = false := by decide +kernel

theorem test_badRequestFrame_needs_bad_frame :
    (Instr.badRequestFrame (requestFrame 29 1 [2, 0])).wellFormed = false
      ∧ (Instr.badRequestFrame [0x69, 0, 0]).wellFormed = false := by decide +kernel

theorem test_statusTransfer_needs_other_first_byte :
    (Instr.statusTransfer [0x96, 0]).wellFormed = false
      ∧ (Instr.statusTransfer [0x69]).wellFormed = false
      ∧ (Instr.statusTransfer []).wellFormed = false := by decide +kernel

theorem test_well_formed_commands :
    (Instr.unknownRequest 33 1 []).wellFormed = true
      ∧ (Instr.badRequestFrame [0x96, 29, 1]).wellFormed = true
      ∧ (Instr.statusTransfer [0x00]).wellFormed = true
      ∧ (Instr.readStatus 1 (List.replicate 512 0)).wellFormed = true := by decide +kernel

/-! ## Check codes (R196: the check values over "123456789") -/

def digits : List Byte := [0x31, 0x32, 0x33, 0x34, 0x35, 0x36, 0x37, 0x38, 0x39]

theorem test_check_values : crc8 digits = 0xF4 ∧ crc16 digits = 0x29B1 := by decide +kernel

/-! ## Arithmetic of the worked examples -/

/-- Rounding goes to nearest, halves away from zero ("Examples of mean rounding"). -/
theorem test_mean_rounding :
    roundDiv 2461235670 60 = 41020595 ∧ roundDiv (-63030) 60 = -1051 := by decide +kernel

/-- The ACTIVE set of head 2 in "A stream on head 2" and "One sample reduced". -/
def streamSet : CalibrationSet :=
  { calibrationTemplate with
    table := [⟨8000000, 39000000⟩, ⟨9000000, 43900000⟩]
    tiltZeroX := 100, tiltZeroY := 100, tiltGainX := 512, tiltGainY := 512
    tempZero := 50, kN := 64, kE := 96 }

/-- Its first frame: control 0x80 (class 5), sequence 17, count 8,412,345, tilt counts 850 and
−300, raw temperature 170. -/
def streamFrame : List Byte :=
  let body := [0x80, 17] ++ beBytes 3 8412345 ++ beSignedBytes 2 850 ++ beSignedBytes 2 (-300)
    ++ beSignedBytes 2 170
  [0xE5, 0x1B] ++ body ++ [crc8 body]

/-- "One sample reduced": the sample record, and S = 41,020,594 nm/s². -/
theorem test_sample_of_stream :
    sampleOf streamSet (some 100000) streamFrame
      = ⟨17, .five, 8412345, 1500, -800, 120, .extended, false, false, some 100000, .accepted⟩
    ∧ sampleValue streamSet (sampleOf streamSet (some 100000) streamFrame) = 41020594 := by decide +kernel

/-- "Examples of scale interpolation", the falling segment among them. -/
theorem test_scale_interpolation :
    let t : List Breakpoint := [⟨8000000, 39000000⟩, ⟨9000000, 43900000⟩, ⟨10000000, 48810000⟩]
    scaleGravity 8000000 t = 39000000 ∧ scaleGravity 9000000 t = 43900000
      ∧ scaleGravity 9500000 t = 46355000 ∧ scaleGravity 10000000 t = 48810000
      ∧ scaleGravity 5000001 [⟨5000000, 30000000⟩, ⟨5000002, 29999999⟩] = 29999999 := by decide +kernel

/-- "The two-constituent case": the table, T = +1,055 nm/s², and the factors. -/
def twoConstituents : List Constituent :=
  [⟨true, .semidiurnal, 0, 1073741824, 759, 19005⟩, ⟨true, .diurnal, 0, 1610612736, 530, 19005⟩]

theorem test_two_constituents :
    latitudeFactors 45000000 = ⟨-8191, 32767, 16383⟩
      ∧ tideCorrection twoConstituents 105 45000000 45000000 = 1055 := by decide +kernel

/-- "A proximity search": slots 1, 2, 4, 5 around the query. -/
def searchTable : Table Station :=
  [(0, Station.fresh [0x42] .base 45000000 45000000),
   (1, Station.fresh [0x46] .field 45600000 45900000),
   (2, Station.fresh [0x47] .field 43500000 45000000),
   (4, Station.fresh [0x48] .field 45000000 47900000),
   (5, Station.fresh [0x49] .field 44400000 44400000)]

def searchQuery : NearQuery := ⟨45000000, 45000000, 2000000, 23170⟩

theorem test_proximity_search :
    prepareNear 45000000 45000000 2000000 = some searchQuery
      ∧ scanStations searchQuery searchTable
        = ⟨4, [(0, 0), (5, 539992305025), (1, 764983322689), (2, 2250000000000)]⟩ := by decide +kernel

/-- "Example of a station value": occupations 32, 47, 51 and 58. -/
def valued (state : OccState) (grade : Grade) (drift : Option Int) (v : Int) : Occupation :=
  { station := 2, head := .h2, state := state, included := true, openedAt := 0, rate := .two
    granted := 60, target := 120, calGen := 1, counts := ⟨120, 0, 0, 0, 0, 0, 0, 0⟩, steps := []
    grade := some grade, midTime := some 7200, readingMean := some v, tideMean := some 0
    tideStale := false, drift := drift, driftFrozen := false, driftLoop := none
    anchorsLoop := none, value := some v }

theorem test_station_value :
    let os := [valued .closed .a (some 143) 41035067, valued .closed .b none 41035190,
      valued .closed .c (some 96) 41034980]
    let st := (Station.fresh [0x46] .field 0 0).processed 100 os
    st.adopted = some 41035090 ∧ st.spread = some 210 ∧ st.weightTotal = 7
      ∧ st.discordant = true ∧ st.state = .provisional := by decide +kernel

/-- The same without occupation 47. -/
theorem test_station_value_without_47 :
    let os := [valued .closed .a (some 143) 41035067, valued .closed .c (some 96) 41034980]
    let st := (Station.fresh [0x46] .field 0 0).processed 100 os
    st.adopted = some 41035050 ∧ st.spread = some 87 ∧ st.discordant = false
      ∧ st.state = .adopted := by decide +kernel

/-- "Starting the clock and watching it wander": m = 20, 21, 981, 979. -/
theorem test_pulse_offsets :
    pulseOffset 4000020 = 20 ∧ pulseOffset 4050021 = 21 ∧ pulseOffset 981 = -19
      ∧ pulseOffset 979 = -21 := by decide +kernel

/-- "A calibration waiting on a loop": the fields sent out of range, and what is stored. -/
def entryForm : CalibrationSet :=
  { calibrationTemplate with
    table := [⟨7500000, 36550000⟩, ⟨8600000, 41920000⟩, ⟨9800000, 90000000⟩]
    tiltGainX := 5000, tiltWindow := 1500, settleWindow := 1800, bandN := 60, bandE := 40
    kN := -32768, settleCount := 120, headTimeout := 150 }

theorem test_staged_clamps :
    stageOperands (stagePayload .h3 entryForm) = some (.h3, { entryForm with
      table := [⟨7500000, 36550000⟩, ⟨8600000, 41920000⟩, ⟨9800000, 83886075⟩]
      tiltGainX := 4095, settleWindow := 1500, bandE := 60, kN := -32767
      headTimeout := 100 }) := by decide +kernel

/-- R48: the examples it gives. -/
theorem test_granted_duration :
    grantedDuration .one 45 = 60 ∧ grantedDuration .five 200 = 300
      ∧ grantedDuration .ten 450 = 300 := by decide +kernel

/-! ## A small survey: the loop of "A loop with a member deleted during its application" -/

/-- A CLOSED occupation on head 0 with tide mean 1,055 nm/s² and V = S̄ + T̄. -/
def closedAt (station mid : Nat) (reading : Int) : Occupation :=
  { station := station, head := .h0, state := .closed, included := true, openedAt := 0, rate := .one
    granted := 60, target := 60, calGen := 0, counts := ⟨60, 0, 0, 0, 0, 0, 0, 0⟩
    steps := [⟨mid / 30, 60, some ⟨1055, 0, 0⟩⟩], grade := some .a, midTime := some mid
    readingMean := some reading, tideMean := some 1055, tideStale := false, drift := none
    driftFrozen := false, driftLoop := none, anchorsLoop := none, value := some (reading + 1055) }

def baseStation : Station :=
  { Station.fresh [0x42] .base 45000000 45000000 with chain := [0, 2] }

def fieldStation : Station :=
  { Station.fresh [0x46] .field 45600000 45900000 with chain := [1] }

def opener : Occupation :=
  { closedAt 0 3600 41020594 with anchorsLoop := some 0, drift := some 0 }

def member : Occupation := { closedAt 1 7200 41034155 with driftLoop := some 0 }

def closer : Occupation :=
  { closedAt 0 10800 41020894 with driftLoop := some 0, anchorsLoop := some 1 }

def survey : State :=
  { State.reset with
    stations := [(0, baseStation), (1, fieldStation)]
    nameIndex := [(0, [0x42]), (1, [0x46])]
    occupations := [(0, opener), (1, member), (2, closer)]
    loops := [(0, ⟨.h0, .closing, 0, 0, some 2, 0, none, [1]⟩),
      (1, ⟨.h0, .opened, 0, 2, none, 0, none, []⟩)]
    clock := some 20000000 }

def applying : State := { survey with inFlight := some (.driftApply 0 1) }

/-- The loop's rate and the terms of its member and closer, as the example's table has them. -/
theorem test_drift_application :
    let t := after .driftApplyComplete applying
    Table.get t.loops 0 = some ⟨.h0, .closed, 0, 0, some 2, 0, some 2731, [1]⟩
      ∧ (Table.get t.occupations 1).map (fun o => (o.drift, o.value)) = some (some 150, some 41035060)
      ∧ (Table.get t.occupations 2).map (fun o => (o.drift, o.value)) = some (some 300, some 41021649)
      ∧ t.notices.getLsbD Notice.loopClosed.position = true := by decide

/-- "The same loop under a small drift limit". -/
theorem test_suspect_application :
    let t := after .driftApplyComplete
      { applying with constants := { defaultConstants with driftLimit := 2000 } }
    Table.get t.loops 0 = some ⟨.h0, .suspect, 0, 0, some 2, 0, some 2000, [1]⟩
      ∧ (Table.get t.occupations 1).bind Occupation.drift = some 110
      ∧ (Table.get t.occupations 2).bind Occupation.value = some 41021729 := by decide

def appliedSurvey : State := after .driftApplyComplete applying

/-- "Later: release, then abandonment of the next loop". -/
theorem test_release_then_abandon :
    let t := after (.releaseLoop 1 [0]) appliedSurvey
    let u := after (.abandonLoop 2 [1]) t
    (Table.get t.occupations 1).map (fun o => (o.drift, o.driftFrozen)) = some (some 150, true)
      ∧ (Table.get t.occupations 0).map (fun o => (o.drift, o.driftFrozen)) = some (some 0, true)
      ∧ (Table.get u.occupations 2).map (fun o => (o.drift, o.anchorsLoop)) = some (some 300, none)
      ∧ u.loops = [] := by decide

/-- "Had the console instead deleted occupation 33". -/
theorem test_delete_closer :
    let t := after (.deleteOccupation 1 [0, 2]) appliedSurvey
    t.loops = [] ∧ (Table.get t.occupations 1).bind Occupation.drift = none
      ∧ (Table.get t.occupations 0).bind Occupation.drift = none
      ∧ (Table.get t.occupations 2).isNone = true := by decide

/-! ## States that meet the statements' hypotheses -/

theorem witness_StepRunsFrontCommand :
    (State.reset.withPending [.timePulse, .pulseLoss]).pending = .timePulse :: [.pulseLoss] := rfl

theorem witness_IdleStepPassesOneMillisecond : survey.pending = [] ∧ State.reset.pending = [] :=
  ⟨rfl, rfl⟩

/-- A walk passes its list, a TIDE_REDO keeps what it holds, and the clock comes to its largest value
(R142, R138, R153). -/
theorem test_idle_step :
    applying.tick.pending = [.driftApplyComplete] ∧ applying.tick.clock = some 20000001
      ∧ ({ applying with inFlight := some (.driftApply 0 0) }).tick.inFlight = some (.driftApply 0 1)
      ∧ ({ survey with inFlight := some (.tideRedo 1 [⟨3, ⟨7, 0, 0⟩⟩] [240]) }).tick.inFlight
        = some (.tideRedo 1 [⟨3, ⟨7, 0, 0⟩⟩] [240])
      ∧ ({ survey with clock := some 4294967295998 }).tick.pending = [.clockHoldAtMax]
      ∧ ({ survey with clock := some 4294967295999 }).tick.pending = [] := by decide

theorem witness_WireFrameRoundTrip :
    (List.replicate 512 (0 : Byte)).length ≤ 512 ∧ ([] : List Byte).length ≤ 512 := by decide +kernel

theorem witness_WireFrameRunsItsRow :
    (Instr.readStatus 7 [0, 29]).request? = some ⟨29, 7, [0, 29]⟩
      ∧ ([0, 29] : List Byte).length ≤ 512 := by decide

theorem witness_DamagedFrameIsRejected :
    (requestFrame 29 7 [0, 29])[1]? ≠ some 0 ∧ (requestFrame 29 7 [0, 29])[8]? ≠ some 0 := by decide +kernel

/-- A link with a frame of seven bytes waiting. -/
def answering : State := survey.answeredAs 0 7 (refusal .busy)

theorem witness_TransfersWithoutRequest :
    answering.running = true ∧ isBadFrame [0x96] = true ∧ isStatusTransfer [0x00] = true
      ∧ answering.link = .answered (responseFrame 7 (refusal .busy))
      ∧ (responseFrame 7 (refusal .busy)).length ≤ 7
      ∧ 6 < (responseFrame 7 (refusal .busy)).length
      ∧ (∀ f, survey.link ≠ .answered f) :=
  ⟨rfl, by decide, rfl, rfl, by decide, by decide, nofun⟩

/-- A FIND_NEAR scan is running. -/
def searching : State :=
  { survey with
    link := .working ⟨5, 3, beSignedBytes 4 45000000 ++ beSignedBytes 4 45000000
      ++ beBytes 4 2000000 ++ beBytes 2 512⟩
    scan := some searchQuery }

/-- R181: a good frame body behind another first byte is no request, and no bytes are no frame. -/
theorem test_first_byte_decides :
    let body := (requestFrame 32 7 []).drop 1
    let t := after (.badRequestFrame (0x00 :: body)) answering
    let u := after (.badRequestFrame (0x69 :: body)) answering
    isStatusTransfer (0x00 :: body) = true
      ∧ t.link = answering.link ∧ t.lastRejected = false
      ∧ t.miso = answering.statusByte :: List.replicate 6 0xFF
      ∧ u.link = answering.link ∧ u.miso = answering.statusByte :: (responseFrame 7 (refusal .busy)).take 6
      ∧ (after (.badRequestFrame []) answering).lastRejected = false
      ∧ (after (.badRequestFrame (0x96 :: body)) answering).link = .idle := by decide +kernel

theorem witness_WorkingIgnoresRequests :
    searching.running = true ∧ searching.startup = false ∧ searching.link.isWorking = true
      ∧ (Instr.readStatus 7 [0, 29]).request? = some ⟨29, 7, [0, 29]⟩
      ∧ (29 : Byte) ≠ 32 := by decide

/-- The backup-lost start-up is running. -/
def starting : State := { State.reset with startup := true }

theorem witness_LinkAnswersForItself :
    starting.running = true ∧ starting.startup = true ∧ starting.link.isWorking = false
      ∧ (Instr.startupBusyAnswer 29 7 [0, 29]).request? = some ⟨29, 7, [0, 29]⟩
      ∧ survey.serves ∧ knownCode 0 = false ∧ knownCode 33 = false := by decide

/-- A payload one byte short, one byte long, and empty. -/
theorem witness_LinkAnswersForItself_form :
    survey.serves ∧ (Instr.readStation 1 [0, 0, 2]).request? = some ⟨3, 1, [0, 0, 2]⟩
      ∧ formLength (3 : Byte).toNat = some 4 ∧ ([0, 0, 2] : List Byte).length ≠ 4
      ∧ (Instr.findNear 1 (List.replicate 15 0)).request? = some ⟨5, 1, List.replicate 15 0⟩
      ∧ formLength (5 : Byte).toNat = some 14 ∧ (List.replicate 15 (0 : Byte)).length ≠ 14
      ∧ (Instr.unknownRequest 30 1 []).request? = some ⟨30, 1, []⟩
      ∧ formLength (30 : Byte).toNat = some 4 := by decide

theorem witness_LinkResetReturnsToIdle :
    searching.running = true ∧ searching.startup = false ∧ starting.running = true
      ∧ starting.startup = true ∧ (requestFrame 32 7 [])[6]? ≠ some 0 := by decide +kernel

theorem witness_StatusByteAndAttn :
    survey.running = true ∧ survey.startup = false ∧ starting.startup = true
      ∧ survey.attn = true := by decide

theorem witness_NoticeRequestsServed :
    survey.serves ∧ (beBytes 4 4294967295).length = 4 := by decide

theorem witness_ReadsChangeNothing :
    (Instr.readLoop 1 [0, 2, 0]).isRead = true
      ∧ exec (.readLoop 1 [0, 2, 0]) survey = .next (after (.readLoop 1 [0, 2, 0]) survey)
      ∧ (∀ tag p, (Instr.readLoop 1 [0, 2, 0]) ≠ .findNear tag p) := ⟨rfl, rfl, nofun⟩

/-- A request refused NOT_FOUND: the second byte of its response is 3, that of a DONE response 0. -/
theorem witness_RefusalsChangeNothing :
    (Instr.readStation 1 [0, 9, 2, 0]).request? = some ⟨3, 1, [0, 9, 2, 0]⟩
      ∧ exec (.readStation 1 [0, 9, 2, 0]) survey
        = .next (after (.readStation 1 [0, 9, 2, 0]) survey)
      ∧ (∀ p, (after (.readStation 1 [0, 9, 2, 0]) survey).link
        ≠ .answered (responseFrame 1 ⟨.done, p⟩)) := by
  refine ⟨rfl, rfl, fun p h => ?_⟩
  have h1 : (after (.readStation 1 [0, 9, 2, 0]) survey).link.waiting[1]? = some 3 := by decide
  rw [h] at h1
  exact absurd h1 (show some (0 : Byte) ≠ some 3 by decide)

theorem witness_RecordReadsAnswered :
    survey.serves ∧ 0 < survey.partition.slots ∧ Table.get survey.stations 0 = some baseStation
      ∧ ([0x62] : List Byte).length ≤ 12 ∧ (0 : Byte) ∉ ([0x62] : List Byte)
      ∧ legalName [0x62] = some [0x42] ∧ survey.slotNamed [0x42] = some 0
      ∧ 2 < survey.partition.records ∧ Table.get survey.occupations 2 = some closer
      ∧ (Table.get survey.loops 0).isSome = true := by decide

/-- The last entries: slot 319, occupation 1,535, loop 31 and a name of 12 characters. -/
theorem witness_RecordReadsAnswered_last :
    let s := { survey with
      stations := [(319, baseStation)], nameIndex := [(319, List.replicate 12 0x42)]
      occupations := [(1535, member)], loops := [(31, Loop.fresh 0 opener)] }
    s.serves ∧ 319 < s.partition.slots ∧ Table.get s.stations 319 = some baseStation
      ∧ legalName (List.replicate 12 0x62) = some (List.replicate 12 0x42)
      ∧ s.slotNamed (List.replicate 12 0x42) = some 319
      ∧ 1535 < s.partition.records ∧ Table.get s.occupations 1535 = some member
      ∧ Table.get s.loops 31 = some (Loop.fresh 0 opener) := by decide

/-- The first numbers that do not exist, FREE records, an empty and an illegal name, and a name that
nobody holds. -/
theorem witness_RecordReadsAnswered_refused :
    survey.serves ∧ survey.partition.slots ≤ 320 ∧ 319 < survey.partition.slots
      ∧ Table.get survey.stations 319 = none ∧ legalName [] = none ∧ legalName [0x21] = none
      ∧ legalName [0x63] = some [0x43] ∧ survey.slotNamed [0x43] = none
      ∧ survey.partition.records ≤ 1536 ∧ 1535 < survey.partition.records
      ∧ Table.get survey.occupations 1535 = none ∧ Table.get survey.loops 31 = none := by decide

def staging : State := { survey with staged := survey.staged.set .h3 (some streamSet) }

theorem witness_UnitReadsAnswered :
    staging.serves ∧ staging.staged.get .h3 = some streamSet
      ∧ (staging.constituents[0]?).isSome = true ∧ (staging.constituents[11]?).isSome = true := by
  decide

theorem witness_UnitReadsAnswered_refused :
    survey.serves ∧ 3 < (4 : Byte).toNat ∧ 1 < (2 : Byte).toNat ∧ survey.staged.get .h0 = none
      ∧ survey.constituents.length = 12 := by decide

theorem witness_AnswerLengths : baseStation.name.length ≤ 12
    ∧ (Station.fresh (List.replicate 12 0x42) .base 0 0).name.length ≤ 12 := by decide

/-- Coordinates at the ends of their ranges, and the lowest FREE slot between two stations. -/
theorem witness_DeclareStationWrites :
    let s := { survey with
      stations := [(0, baseStation), (2, fieldStation)], nameIndex := [(0, [0x42]), (2, [0x46])] }
    s.serves ∧ legalName [0x61, 0x39, 0x2E] = some [0x41, 0x39, 0x2E]
      ∧ (0 : Byte) ∉ ([0x61, 0x39, 0x2E] : List Byte)
      ∧ Role.ofCode 1 = some .field ∧ normLatitude 90000000 = some 90000000
      ∧ normLatitude (-90000000) = some (-90000000)
      ∧ normLongitude 180000000 = some (-180000000) ∧ normLongitude (-360000000) = some 0
      ∧ normLongitude 360000000 = some 0
      ∧ (∀ e ∈ s.nameIndex, e.2 ≠ [0x41, 0x39, 0x2E])
      ∧ Table.firstFree s.stations s.partition.slots = some 1 := by decide

/-- Each illegal operand at its bound, a name that is held, and a full table. -/
theorem witness_DeclareStationWrites_refused :
    survey.serves ∧ legalName [] = none ∧ Role.ofCode 2 = none ∧ normLatitude 90000001 = none
      ∧ normLatitude (-90000001) = none ∧ normLongitude 360000001 = none
      ∧ normLongitude (-360000001) = none ∧ legalName [0x62] = some [0x42]
      ∧ (∃ e ∈ survey.nameIndex, e.2 = [0x42]) ∧ Role.ofCode 0 ≠ none ∧ normLatitude 0 ≠ none
      ∧ normLongitude 0 ≠ none
      ∧ Table.firstFree ((List.range 320).map fun n => (n, baseStation)) Partition.a.slots = none := by
  refine ⟨by decide, by decide, by decide, by decide, by decide, by decide, by decide, by decide,
    by decide, by decide, by decide, by decide, Table.firstFree_of_full fun k hk => ?_⟩
  rw [Table.get_of_mem (v := baseStation)
    (by simpa [Table.wf, Function.comp_def] using List.pairwise_lt_range)]
  · rfl
  · exact List.mem_map.mpr ⟨k, List.mem_range.mpr hk, rfl⟩

/-- Name and role carried, and the position as it stands. -/
theorem witness_EditStationWrites :
    let o : EditOperands := ⟨1, some [0x67], some 0, some 45600000, none⟩
    let e : StationEdit := ⟨some [0x47], some .base, some 45600000, none⟩
    survey.serves ∧ (0 : Byte) ∉ ([0x67] : List Byte) ∧ o.slot < survey.partition.slots
      ∧ Table.get survey.stations o.slot = some fieldStation ∧ o.check = some e
      ∧ survey.editNameTaken o.slot e = false ∧ survey.editInUse o.slot fieldStation e = false
      ∧ fieldStation.movedBy e = false := by decide

/-- A slot that does not exist, a FREE one, an illegal field, another station's name (its own is none),
and the role FIELD for the base of a loop. -/
theorem witness_EditStationWrites_refused :
    survey.serves ∧ survey.partition.slots ≤ 320 ∧ Table.get survey.stations 319 = none
      ∧ EditOperands.check ⟨1, some [], none, none, none⟩ = none
      ∧ EditOperands.check ⟨1, some [0x62], none, none, none⟩ = some ⟨some [0x42], none, none, none⟩
      ∧ survey.editNameTaken 1 ⟨some [0x42], none, none, none⟩ = true
      ∧ survey.editNameTaken 0 ⟨some [0x42], none, none, none⟩ = false
      ∧ EditOperands.check ⟨0, none, some 1, none, none⟩ = some ⟨none, some .field, none, none⟩
      ∧ survey.editNameTaken 0 ⟨none, some .field, none, none⟩ = false
      ∧ survey.editInUse 0 baseStation ⟨none, some .field, none, none⟩ = true := by decide

theorem witness_MovedStationMarksItsOccupations :
    let o : EditOperands := ⟨0, none, none, none, some 45000001⟩
    let e : StationEdit := ⟨none, none, none, some 45000001⟩
    survey.serves ∧ o.slot < survey.partition.slots
      ∧ Table.get survey.stations o.slot = some baseStation ∧ o.check = some e
      ∧ survey.editNameTaken o.slot e = false ∧ survey.editInUse o.slot baseStation e = false
      ∧ baseStation.movedBy e = true ∧ 0 ∈ baseStation.chain
      ∧ Table.get survey.occupations 0 = some opener ∧ opener.state = .closed
      ∧ 1 ∉ survey.closedOf baseStation.chain := by decide

theorem witness_RetirementFreesEverything :
    survey.serves ∧ 0 < survey.partition.slots ∧ Table.get survey.stations 0 = some baseStation
      ∧ survey.chainOpen baseStation.chain = false := by decide

theorem witness_ClearSurveyEmptiesTheStores :
    applying.serves ∧ Partition.ofCode 3 = some .c ∧ applying.anyOpen = false
      ∧ applying.revisionBusy = true ∧ survey.revisionBusy = false := by decide

/-- A TIDE_REDO of occupation 1 in flight, its request in the Revision Engine's slot. -/
def redoing (slot : Slot) : State :=
  { survey with
    inFlight := some (.tideRedo 1 [] [240]), tide := { TideEngine.reset with revisionSlot := slot } }

def redoRequest : TideRequest := ⟨1, 240, 7215, 45600000, 45900000, 0⟩

/-- A TIDE_REDO with its request under way, and the codes 0 and 4 that are no partition. -/
theorem witness_ClearSurveyEmptiesTheStores_redo :
    (redoing (.evaluating redoRequest)).serves
      ∧ (redoing (.evaluating redoRequest)).redoing.isSome = true
      ∧ (redoing (.evaluating redoRequest)).anyOpen = false
      ∧ (0 : Byte).toNat = 0 ∧ 3 < (4 : Byte).toNat := by decide

theorem witness_FindNearScans :
    survey.serves ∧ normLatitude 45000000 = some 45000000 ∧ normLongitude 180000000 = some (-180000000)
      ∧ searching.running = true ∧ searching.scan = some searchQuery
      ∧ searching.link.isWorking = true := by decide

/-- One beyond each bound of R9, and the ends of 32 bits. -/
theorem witness_FindNearScans_refused :
    survey.serves ∧ normLatitude 90000001 = none ∧ normLatitude (-2147483648) = none
      ∧ normLongitude 360000001 = none ∧ normLongitude (-360000001) = none
      ∧ normLongitude 2147483647 = none ∧ survey.scan = none := by decide

theorem witness_NearestStationsListed : Table.wf searchTable := by decide

/-- R21: the example across the ±180° meridian, the ends of every range, and the two poles. -/
theorem witness_NearestStationsListed_measure :
    reduceLongitude (-179900000 - 179800000) = 300000 ∧ reduceLongitude 180000000 = -180000000
      ∧ reduceLongitude (-180000000) = -180000000
      ∧ nearMeasure ⟨90000000, 179999999, 1, 32767⟩ (Station.fresh [0x42] .base (-90000000) (-1))
        < 65000000000000000
      ∧ (prepareNear 90000000 0 1).map NearQuery.cosine = some 0
      ∧ (prepareNear (-90000000) 0 1).map NearQuery.cosine = some 0 := by decide +kernel

/-! ### Engines -/

/-- A LIVE head at 1 frame/s. -/
def liveChannel : Channel :=
  { Channel.reset with state := .live, rate := some .one, lastSequence := some 254, lastValid := some 0 }

/-- Head 0 is LIVE, and a chain of 15 occupations leaves one place. -/
def ready : State :=
  { survey with
    stations := [(0, { baseStation with chain := List.range 15 }), (1, fieldStation)]
    channels := survey.channels.set .h0 liveChannel }

theorem witness_OpeningStartsSettling :
    ready.serves ∧ 0 < ready.partition.slots ∧ ready.engines.get .h0 = .idle
      ∧ Table.get ready.stations 0 = some { baseStation with chain := List.range 15 }
      ∧ ready.clock = some 20000000 ∧ (ready.channels.get .h0).upRate = some .one
      ∧ Table.firstFree ready.occupations ready.partition.records = some 3
      ∧ (List.range 15).length < 16
      ∧ ready.staged.get .h0 = none ∧ (ready.openLoop .h0).isSome = true := by decide

/-- A STAGED set that the opening applies: the head has no OPEN loop. -/
theorem witness_OpeningStartsSettling_applies :
    let s := { ready with loops := [], staged := ready.staged.set .h0 (some streamSet) }
    s.serves ∧ s.engines.get .h0 = .idle ∧ s.staged.get .h0 = some streamSet
      ∧ s.openLoop .h0 = none ∧ (s.channels.get .h0).upRate = some .one := by decide

/-- The state shows a rate class on every head that is LIVE or CLAMPED. -/
theorem ready_rates : ∀ h, (ready.channels.get h).state = .live ∨ (ready.channels.get h).state = .clamped →
    (ready.channels.get h).rate ≠ none := by
  intro h
  cases h <;> decide

def session : Session := ⟨3, 1, .one, 60, 60⟩

/-- An OPEN occupation on head 0 with a number of accepted samples. -/
def openWith (accepted : Nat) : Occupation :=
  { closedAt 1 0 0 with
    state := .opened, included := false, counts := ⟨accepted, 0, 0, 0, 0, 0, 0, 0⟩
    steps := [⟨5, accepted, none⟩], grade := none, midTime := none, readingMean := none
    tideMean := none, value := none }

def integration : Integration := ⟨0, 20000000, 2461235670, 600000000, [⟨5, true⟩]⟩

/-- Head 0's engine in the given state, its occupation 3 holding the given count. -/
def running (e : Engine) (accepted : Nat) : State :=
  { ready with
    stations := [(0, baseStation), (1, { fieldStation with chain := [1, 3] })]
    occupations := survey.occupations ++ [(3, openWith accepted)]
    engines := ready.engines.set .h0 e }

/-- Each refusal of OPEN_OCCUPATION but TABLE_FULL, where the checks before it pass. -/
theorem witness_OpeningRefusedInOrder :
    ready.serves ∧ 3 < (4 : Byte).toNat ∧ ready.partition.slots ≤ 320
      ∧ (running (.settling session 0 0) 0).engines.get .h0 ≠ .idle
      ∧ Table.get ready.stations 2 = none
      ∧ ({ ready with clock := none }).clock = none
      ∧ (ready.channels.get .h1).state = .absent ∧ ready.engines.get .h1 = .idle
      ∧ ({ liveChannel with state := .lost }).state = .lost
      ∧ 16 ≤ ({ baseStation with chain := List.range 16 }).chain.length := by decide

/-- TABLE_FULL: every record of partition A is in use. -/
theorem witness_OpeningRefusedInOrder_full :
    Table.firstFree ((List.range 1536).map fun n => (n, member)) Partition.a.records = none := by
  refine Table.firstFree_of_full fun k hk => ?_
  rw [Table.get_of_mem (v := member) (by simpa [Table.wf, Function.comp_def] using List.pairwise_lt_range)]
  · rfl
  · exact List.mem_map.mpr ⟨k, List.mem_range.mpr hk, rfl⟩

/-- The settle counter at the settle count of 100. -/
theorem witness_IntegrationBegins :
    let s := { running (.settling session 100 20300000) 0 with
      channels := ready.channels.set .h0 { liveChannel with
        lastSample := some (sampleOf streamSet (some 100000) streamFrame) } }
    s.serves ∧ s.engines.get .h0 = .settling session 100 20300000 ∧ s.clock = some 20000000
      ∧ (s.activeSet .h0).settleCount ≤ 100
      ∧ (s.channels.get .h0).lastSample = some (sampleOf streamSet (some 100000) streamFrame)
      ∧ (sampleOf streamSet (some 100000) streamFrame).time = some 100000 := by decide

theorem witness_IntegrationBegins_refused :
    (running (.integrating session integration) 0).serves ∧ 3 < (4 : Byte).toNat
      ∧ ((running (.integrating session integration) 0).engines.get .h0).code ≠ 1
      ∧ (survey.engines.get .h0).code ≠ 1 := by decide

/-- Accepted counts at the target of 60, at half of it, and at the 30 of R60. -/
theorem witness_EndedIntegrationIsJudged :
    (running (.integrating session integration) 60).engines.get .h0 = .integrating session integration
      ∧ integration.owed ≠ [] ∧ (running (.integrating session integration) 60).serves
      ∧ session.target ≤ ((running (.integrating session integration) 60).countsOf 3).accepted
      ∧ judge .target (openWith 60).counts = some .a
      ∧ (running (.integrating session integration) 30).capDue .h0 = true
      ∧ session.target ≤ 2 * ((running (.integrating session integration) 30).countsOf 3).accepted
      ∧ judge .cap (openWith 30).counts = some .c ∧ judge .stop (openWith 30).counts = some .a := by
  decide

/-- R62 at its bounds: 40% of 100 frames is not NOISY, 41 are; 10% is grade A, 11 is C. -/
theorem test_judgement_bounds :
    judge .target ⟨60, 0, 40, 0, 0, 0, 0, 0⟩ = some .c ∧ judge .target ⟨59, 0, 0, 41, 0, 0, 0, 0⟩ = none
      ∧ judge .target ⟨90, 0, 0, 0, 10, 0, 0, 0⟩ = some .a
      ∧ judge .target ⟨90, 1, 0, 0, 10, 0, 0, 0⟩ = some .b
      ∧ judge .stop ⟨89, 0, 0, 0, 0, 11, 0, 0⟩ = some .c := by decide

/-- A deadline just reached, 29 accepted samples, and a NOISY end. -/
theorem witness_FailureEndsTheOccupation :
    (running (.settling session 0 20000000) 0).serves
      ∧ ((running (.settling session 0 20000000) 0).engines.get .h0).session? = some session
      ∧ (running (.settling session 0 20000000) 0).settlingDue .h0 = true
      ∧ (running (.settling session 0 20000001) 0).settlingDue .h0 = false
      ∧ (running (.integrating session integration) 29).capDue .h0 = true
      ∧ 2 * ((running (.integrating session integration) 29).countsOf 3).accepted < session.target
      ∧ ((running (.integrating session integration) 29).countsOf 3).accepted < 30
      ∧ judge .target ⟨60, 0, 41, 0, 0, 0, 0, 0⟩ = none := by decide

theorem witness_FailureEndsTheOccupation_noisy :
    let s := { running (.integrating session integration) 60 with
      occupations := [(3, { openWith 60 with counts := ⟨60, 0, 41, 0, 0, 0, 0, 0⟩ })] }
    s.running = true ∧ s.engines.get .h0 = .integrating session integration
      ∧ session.target ≤ (s.countsOf session.occupation).accepted
      ∧ judge .target (s.countsOf session.occupation) = none := by decide

/-- 30 accepted samples and 21 rejected are NOISY by CAP and by STOP; 20 rejected are not. -/
theorem witness_FailureEndsTheOccupation_noisy_ends :
    let s := { running (.integrating session integration) 30 with
      occupations := [(3, { openWith 30 with counts := ⟨30, 0, 21, 0, 0, 0, 0, 0⟩ })] }
    s.serves ∧ s.engines.get .h0 = .integrating session integration ∧ s.capDue .h0 = true
      ∧ session.target ≤ 2 * (s.countsOf 3).accepted ∧ 30 ≤ (s.countsOf 3).accepted
      ∧ judge .cap (s.countsOf 3) = none ∧ judge .stop (s.countsOf 3) = none
      ∧ judge .stop ⟨30, 0, 20, 0, 0, 0, 0, 0⟩ = some .c
      ∧ ((Table.get (after (.stopOccupation 1 [0]) s).occupations 3).map Occupation.state)
        = some (.failed .noisy) := by decide

/-- STOP and CANCEL in a state they do not act on. -/
theorem witness_FailureEndsTheOccupation_refused :
    (running (.settling session 0 20000000) 0).serves ∧ 3 < (4 : Byte).toNat
      ∧ ((running (.settling session 0 20000000) 0).engines.get .h0).code ≠ 2
      ∧ ((running (.reducing session integration .stop .a) 60).engines.get .h0).code ≠ 2
      ∧ survey.serves ∧ survey.engines.get .h0 = .idle := by decide

def nothingOwed : Integration := { integration with owed := [] }

/-- The figures of "Examples of mean rounding" close an occupation. -/
theorem witness_OccupationClosesWithItsMeans :
    let s := running (.integrating session nothingOwed) 60
    s.running = true ∧ s.engines.get .h0 = .integrating session nothingOwed
      ∧ nothingOwed.owed = [] ∧ Table.get s.occupations session.occupation = some (openWith 60)
      ∧ session.target ≤ (openWith 60).counts.accepted
      ∧ judge .target (openWith 60).counts = some .a
      ∧ ((Table.get (after (.targetReached .h0) s).occupations 3).bind Occupation.readingMean)
        = some 41020595 := by decide

/-- STOP at 30 and CAP at half the target, with no step owed. -/
theorem witness_OccupationClosesWithItsMeans_early :
    let s := running (.integrating session nothingOwed) 30
    s.serves ∧ s.capDue .h0 = true ∧ Table.get s.occupations session.occupation = some (openWith 30)
      ∧ session.target ≤ 2 * (openWith 30).counts.accepted
      ∧ judge .cap (openWith 30).counts = some .c ∧ 30 ≤ (openWith 30).counts.accepted
      ∧ judge .stop (openWith 30).counts = some .a := by decide

/-- The state an early stop leads to closes its record, handed to the OPEN loop as its member. -/
theorem witness_OccupationClosesWithItsMeans_closed :
    let s := running (.integrating session nothingOwed) 60
    let t := after (.targetReached .h0) s
    s.closedTo t .h0 session nothingOwed .a ∧ s.staleAtClose (openWith 60) = false
      ∧ (Table.get t.loops 1).map Loop.members = some [3] ∧ t.revQueue = [] := by
  exact ⟨⟨openWith 60, rfl, rfl⟩, by decide, by decide, by decide⟩

/-- A step computed with a coordinate generation that is no longer current (R64). -/
theorem witness_OccupationClosesWithItsMeans_stale :
    survey.staleAtClose { openWith 60 with steps := [⟨5, 60, some ⟨1055, 1, 0⟩⟩] } = true := by decide

/-- Head 0 sends streamFrame, one byte of it still to come; its engine integrates at class 5 with 59
samples accepted and a step list that has, or has not, the step of the next sample's time. -/
def atTarget (step : Nat) : State :=
  let w : Session := ⟨3, 1, .five, 60, 60⟩
  let s := running (.integrating w nothingOwed) 59
  { s with
    active := s.active.set .h0 streamSet
    channels := s.channels.set .h0
      { liveChannel with receiver := ⟨.collecting, streamFrame.take 13⟩, lastCharacter := some 0 }
    occupations := survey.occupations
      ++ [(3, { openWith 59 with rate := .five, steps := [⟨step, 59, some ⟨7, 0, 0⟩⟩] })] }

def streamSample : Sample := sampleOf streamSet (some 20000000) streamFrame

/-- The state in which streamFrame's sample reaches the engine of `atTarget`. -/
def atSample (step : Nat) : State :=
  { atTarget step with
    channels := (atTarget step).channels.set .h0
      (Channel.afterFrame { (atTarget step).channels.get .h0 with lastCharacter := some 0 } 0
        streamSample) }.engineGap .h0 18

/-- Sequence 254 was the last; the frame's is 17, and the 18 frames between are missing. -/
theorem atTarget_handsOn (step : Nat) :
    (atTarget step).handsOn .h0 (streamFrame.getD 13 0) streamSample (atSample step) := by
  refine ⟨streamFrame.take 13, rfl, by decide +kernel, by decide +kernel, rfl, ?_⟩
  have missing : ((atTarget 0).channels.get .h0).missing streamSample.sequence = 18 := by
    decide +kernel
  rw [show ((atTarget step).channels.get .h0).missing streamSample.sequence = 18 from missing]
  rfl

/-- The sixtieth sample arrives in the step of the others, and the target is reached. -/
theorem witness_OccupationClosesWithItsMeans_frame :
    let s := atTarget 666
    let w : Session := ⟨3, 1, .five, 60, 60⟩
    s.running = true ∧ s.handsOn .h0 (streamFrame.getD 13 0) streamSample (atSample 666)
      ∧ s.engines.get .h0 = .integrating w nothingOwed ∧ nothingOwed.owed = []
      ∧ streamSample.rate = w.rate ∧ streamSample.verdict = .accepted
      ∧ streamSample.time = some 20000000
      ∧ ((Table.get (atSample 666).occupations 3).map fun o =>
          (o.counts.accepted, o.counts.gap, o.steps.map TideStep.index)) = some (59, 18, [20000000 / 30000])
      ∧ 59 < 65535 ∧ w.target ≤ 59 + 1
      ∧ judge .target (OccCounts.accept ⟨59, 0, 0, 0, 0, 0, 0, 18⟩ streamSample.regime) = some .b
      ∧ ((Table.get (after (.headFrame .h0 (streamFrame.getD 13 0)) s).occupations 3).map
          Occupation.state) = some .closed := by
  refine ⟨by decide, atTarget_handsOn 666, ?_⟩
  decide +kernel

/-! ### Loops -/

/-- A loop with 63 or 64 members, and a table with 32 or 31 loops. -/
theorem witness_DriftUnitTakesClosedOccupation :
    Table.wf survey.loops ∧ Table.get survey.occupations 2 = some closer
      ∧ Table.get survey.occupations 1 = some member
      ∧ survey.openLoop closer.head = some (1, ⟨.h0, .opened, 0, 2, none, 0, none, []⟩)
      ∧ closer.station = 0 ∧ member.station ≠ 0
      ∧ Table.firstFree survey.loops 32 = some 2
      ∧ (List.range 63).length < 64 ∧ 64 ≤ (List.range 64).length
      ∧ ({ survey with loops := [] }).openLoop closer.head = none
      ∧ survey.roleOf closer.station = some .base ∧ survey.roleOf member.station ≠ some .base := by
  decide

/-- Every entry in use, the last an OPEN loop or none of them on head 0. -/
theorem witness_DriftUnitTakesClosedOccupation_full :
    let used : Loop := { Loop.fresh 0 opener with head := .h1, state := .closed }
    let full : Table Loop := (List.range 32).map fun k => (k, used)
    Table.firstFree full 32 = none ∧ ({ survey with loops := full }).openLoop closer.head = none
      ∧ Table.wf full := by decide

theorem witness_IncludedFieldWritten :
    survey.serves ∧ 1 < survey.partition.records ∧ Table.get survey.occupations 1 = some member
      ∧ member.state = .closed ∧ Table.get survey.stations member.station = some fieldStation
      ∧ survey.revisionBusy = false := by decide

theorem witness_IncludedFieldWritten_refused :
    let s := running (.settling session 0 0) 0
    s.serves ∧ s.partition.records ≤ 1536 ∧ Table.get s.occupations 1535 = none
      ∧ Table.get s.occupations 3 = some (openWith 0) ∧ (openWith 0).state ≠ .closed := by decide

theorem witness_StationValueFormed :
    (∀ o ∈ [opener, member, closer], 1 ≤ o.weight) ∧ [opener, member, closer] ≠ [] := by decide

/-- A CLOSED record, and a FAILED one. -/
theorem witness_DeletionFreesTheRecord :
    let failed := { survey with
      occupations := [(3, { openWith 0 with state := .failed .cancelled })] }
    survey.serves ∧ 2 < survey.partition.records ∧ Table.get survey.occupations 2 = some closer
      ∧ closer.state = .closed ∧ survey.loopsAbandonedWith 2 closer = [0, 1]
      ∧ Table.get survey.stations closer.station = some baseStation
      ∧ Table.get failed.occupations 3 = some { openWith 0 with state := .failed .cancelled }
      ∧ Table.get failed.stations 1 = some fieldStation := by decide

/-- A member, whose deletion abandons no loop; and the numbers and the OPEN record that are refused. -/
theorem witness_DeletionFreesTheRecord_member :
    let s := running (.settling session 0 0) 0
    survey.memberLoop 1 member = some 0 ∧ survey.loopsAbandonedWith 1 member = []
      ∧ survey.memberLoop 2 closer = none
      ∧ s.serves ∧ s.partition.records ≤ 1536 ∧ Table.get s.occupations 1535 = none
      ∧ 3 < s.partition.records ∧ Table.get s.occupations 3 = some (openWith 0)
      ∧ (openWith 0).state = .opened := by decide

/-- Deleting occupation 2 abandons the loop it closes and the one it opens: its member 1 and its opener 0
have one place each, and lose the terms that the application gave them. -/
theorem witness_DeletionFreesTheRecord_withdraws :
    let l : Loop := ⟨.h0, .closed, 0, 0, some 2, 0, some 2731, [1]⟩
    let l' : Loop := ⟨.h0, .opened, 0, 2, none, 0, none, []⟩
    let t := after (.deleteOccupation 1 [0, 2]) appliedSurvey
    appliedSurvey.serves ∧ Table.get appliedSurvey.loops 0 = some l
      ∧ Table.get appliedSurvey.loops 1 = some l'
      ∧ ((Table.get appliedSurvey.occupations 2).map fun o => appliedSurvey.loopsAbandonedWith 2 o)
        = some [0, 1]
      ∧ 1 ∈ l.members ∧ l.closer ≠ some 1 ∧ l.opener ≠ 1 ∧ l.opener = 0 ∧ 0 ∉ l.members
      ∧ 0 ∉ l'.occupants ∧ 1 ∉ l'.occupants
      ∧ (Table.get appliedSurvey.occupations 1).bind Occupation.drift = some 150
      ∧ (Table.get t.occupations 1).map (fun o => (o.driftLoop, o.drift, o.value))
        = some (none, none, some 41035210)
      ∧ (Table.get t.occupations 0).map (fun o => (o.anchorsLoop, o.drift)) = some (none, none)
      ∧ (Table.get t.stations 1).bind Station.adopted = some 41035210 := by decide

/-- Deleting occupation 0 abandons the loop it opens: its closer 2 keeps the 0 of the loop it anchors. -/
theorem witness_DeletionFreesTheRecord_closer :
    let t := after (.deleteOccupation 1 [0, 0]) appliedSurvey
    ((Table.get appliedSurvey.occupations 0).map fun o => appliedSurvey.loopsAbandonedWith 0 o)
        = some [0]
      ∧ (Table.get t.occupations 2).map (fun o => (o.driftLoop, o.anchorsLoop, o.drift, o.value))
        = some (none, some 1, some 0, some 41021949)
      ∧ (Table.get t.loops 0).isNone = true ∧ (Table.get t.loops 1).isSome = true := by decide

/-- Retiring station 0 abandons both loops: the member at station 1 stays and loses its term. -/
theorem witness_RetirementFreesEverything_withdraws :
    let t := after (.retireStation 1 [0, 0]) appliedSurvey
    appliedSurvey.serves ∧ Table.wf appliedSurvey.loops ∧ 1 ∉ baseStation.chain
      ∧ (Table.get appliedSurvey.stations 0).map Station.chain = some baseStation.chain
      ∧ appliedSurvey.chainOpen baseStation.chain = false
      ∧ (Table.get appliedSurvey.loops 0).map (fun l => (l.base, l.members)) = some (0, [1])
      ∧ (Table.get appliedSurvey.loops 1).map Loop.occupants = some [2]
      ∧ (Table.get appliedSurvey.occupations 1).bind Occupation.drift = some 150
      ∧ (Table.get t.occupations 1).map (fun o => (o.driftLoop, o.drift, o.value))
        = some (none, none, some 41035210)
      ∧ (Table.get t.stations 1).map (fun st => (st.state, st.adopted))
        = some (.provisional, some 41035210) := by decide

theorem witness_AbandonmentWithdrawsTerms :
    appliedSurvey.serves ∧ (Table.get appliedSurvey.loops 0).isSome = true
      ∧ Table.get survey.loops 0 = some ⟨.h0, .closing, 0, 0, some 2, 0, none, [1]⟩
      ∧ Table.get survey.occupations 1 = some member ∧ Table.get survey.occupations 2 = some closer
      ∧ Table.get survey.occupations 0 = some opener := by decide

/-- The term of the member changes, and the station's value is formed anew; loops 31 and 32 are refused. -/
theorem witness_AbandonmentWithdrawsTerms_changes :
    let t := after (.abandonLoop 1 [0]) appliedSurvey
    (Table.get appliedSurvey.occupations 1).bind Occupation.drift = some 150
      ∧ (Table.get t.occupations 1).bind Occupation.drift = none
      ∧ (Table.get t.stations 1).bind Station.adopted = some 41035210
      ∧ Table.get appliedSurvey.loops 31 = none ∧ 32 ≤ 32 := by decide

/-- An OPEN loop, a CLOSING one, and a free entry. -/
theorem witness_ReleaseFreezesTerms_refused :
    survey.serves ∧ (Table.get survey.loops 0).map Loop.state = some .closing
      ∧ (Table.get survey.loops 1).map Loop.state = some .opened
      ∧ Table.get survey.loops 31 = none := by decide

/-- A CLOSED loop and a SUSPECT one. -/
theorem witness_ReleaseFreezesTerms :
    Table.get appliedSurvey.loops 0 = some ⟨.h0, .closed, 0, 0, some 2, 0, some 2731, [1]⟩
      ∧ Table.get ({ appliedSurvey with
          loops := [(31, ⟨.h0, .suspect, 0, 0, some 2, 0, some 2731, [1]⟩)] }).loops 31
        = some ⟨.h0, .suspect, 0, 0, some 2, 0, some 2731, [1]⟩
      ∧ appliedSurvey.serves := by decide

theorem witness_DriftApplicationWritesTerms :
    applying.running = true ∧ applying.inFlight = some (.driftApply 0 1)
      ∧ Table.get applying.loops 0 = some ⟨.h0, .closing, 0, 0, some 2, 0, none, [1]⟩
      ∧ Table.get applying.occupations 0 = some opener
      ∧ Table.get applying.occupations 2 = some closer := by decide

/-- The member's station and the closer's are formed anew in the step. -/
theorem test_application_forms_values :
    (Table.get appliedSurvey.stations 1).map (fun st => (st.state, st.adopted, st.valueStale))
        = some (.adopted, some 41035060, false)
      ∧ (Table.get appliedSurvey.stations 0).map (fun st => (st.state, st.valueStale))
        = some (.adopted, false)
      ∧ ({ applying with revQueue := [⟨.tideRedo, 1⟩] } |> after .driftApplyComplete).revQueue
        = [⟨.stationValue, 0⟩, ⟨.stationValue, 1⟩] := by decide

/-- R122 at its bounds: the limit itself, one above it, 30 s and 29 s. -/
theorem test_rate_bounds :
    limitRate 13107 0 30 (-13107) = (-13107, .closed) ∧ limitRate 13107 0 30 13108 = (13107, .suspect)
      ∧ limitRate 13107 0 29 5 = (5, .suspect) ∧ driftRate 0 300 0 29 = 655360 := by decide

/-! ### Heads -/

theorem witness_HeadResetClearsTheChannel :
    (running (.settling session 0 0) 0).serves ∧ 3 < (4 : Byte).toNat ∧ 3 < (255 : Byte).toNat
      ∧ ((running (.settling session 0 0) 0).engines.get .h0).session? = some session
      ∧ ((running (.settling session 0 0) 0).engines.get .h1).session? = none := by decide

theorem witness_FrameBytesMakeASample :
    ((streamFrame.drop 2).take 11).length = 11
      ∧ (survey.channels.get .h2).receiver = ⟨.hunting, []⟩ := by decide

/-- Thirteen bytes held; the fourteenth makes the frame valid, another does not. -/
def holding : State :=
  { ready with
    channels := ready.channels.set .h0
      { liveChannel with receiver := ⟨.collecting, streamFrame.take 13⟩, lastCharacter := some 0 } }

theorem witness_ValidFrameUpdatesChannel :
    holding.running = true
      ∧ (holding.channels.get .h0).receiver = ⟨.collecting, streamFrame.take 13⟩
      ∧ (streamFrame.take 13).length = 13
      ∧ frameValid (streamFrame.take 13 ++ [streamFrame.getD 13 0]) = true
      ∧ (holding.channels.get .h0).lastSequence = some 254
      ∧ (holding.channels.get .h0).state = .live ∧ (survey.channels.get .h0).state = .absent
      ∧ ((after (.headFrame .h0 (streamFrame.getD 13 0)) holding).channels.get .h0).gap = 18 := by
  decide +kernel

/-- A broken frame counts in the record of an integrating engine, at its largest count too. -/
theorem test_corrupt_frame_counted :
    let s := atTarget 5
    let full := { s with
      occupations := Table.modify s.occupations 3 fun o =>
        { o with counts := { o.counts with corrupt := 65535 } } }
    ((Table.get (s.engineCorrupt .h0).occupations 3).map fun o => o.counts.corrupt) = some 1
      ∧ ((Table.get (full.engineCorrupt .h0).occupations 3).map fun o => o.counts.corrupt)
        = some 65535
      ∧ (survey.engines.get .h0).code ≠ 2 := by decide +kernel

theorem witness_CharactersAndBrokenFrames :
    holding.running = true ∧ (survey.channels.get .h0).receiver.phase = .hunting
      ∧ (holding.channels.get .h0).receiver.phase = .collecting
      ∧ (streamFrame.take 12).length < 13
      ∧ ({ holding with timeBase := 2 }).pauseDue .h0 = true
      ∧ ({ holding with timeBase := 1 }).pauseDue .h0 = false
      ∧ frameValid (streamFrame.take 13 ++ [streamFrame.getD 13 0 + 1]) = false := by decide +kernel

/-- The template's head timeout of 20 tenths, one millisecond before and at its end. -/
theorem witness_HeadTimeoutLosesTheHead :
    let s := { running (.settling session 4 0) 0 with timeBase := 2000 }
    s.running = true ∧ (s.channels.get .h0).state = .live ∧ (s.channels.get .h0).lastValid = some 0
      ∧ 0 + 100 * (s.activeSet .h0).headTimeout ≤ s.timeBase
      ∧ 1999 < 0 + 100 * (s.activeSet .h0).headTimeout
      ∧ s.engines.get .h0 = .settling session 4 0 ∧ (s.channels.get .h1).state = .absent
      ∧ ({ liveChannel with state := .clamped }).state = .clamped := by decide

/-- A sample of another class, the settle counter at 98, and accepted counts at 58. -/
theorem witness_SampleReachesTheEngine :
    let x := sampleOf streamSet (some 100000) streamFrame
    let s := running (.settling session 98 0) 0
    let t := running (.integrating session integration) 58
    (s.engines.get .h0).session? = some session ∧ (s.engines.get .h0).code ≠ 3
      ∧ x.rate ≠ session.rate ∧ 98 + 1 < (s.activeSet .h0).settleCount
      ∧ ({ x with rate := .one }).rate = session.rate
      ∧ ({ x with verdict := .tilt }).verdict = .tilt ∧ x.verdict = .accepted
      ∧ x.time = some 100000 ∧ t.engines.get .h0 = .integrating session integration
      ∧ Table.get t.occupations 3 = some (openWith 58)
      ∧ (openWith 58).counts.accepted + 1 < session.target := by decide

/-- The settle counter one below the settle count, and a sample that completes it. -/
theorem witness_SampleReachesTheEngine_settles :
    let x := { streamSample with rate := .one, ux := 0, uy := 0 }
    let s := running (.settling session 99 20300000) 0
    let u := { s with
      channels := s.channels.set .h0 { liveChannel with lastSample := some x } }
    x.rate = session.rate ∧ x.verdict = .accepted ∧ x.ux.natAbs ≤ (u.activeSet .h0).settleWindow
      ∧ (u.activeSet .h0).settleCount ≤ 99 + 1 ∧ (u.channels.get .h0).lastSample = some x
      ∧ x.time = some 20000000 := by decide +kernel

/-- The target is reached with the sample's own step still owed, with a quiet record and a noisy one;
counts stand at their largest value. -/
theorem witness_SampleReachesTheEngine_target :
    let x := { streamSample with rate := .one }
    let s := running (.integrating session nothingOwed) 59
    let u := s.engineSample .h0 x
    x.regime = .extended ∧ s.engines.get .h0 = .integrating session nothingOwed
      ∧ Table.get s.occupations 3 = some (openWith 59)
      ∧ session.target ≤ min ((openWith 59).counts.accepted + 1) 65535
      ∧ judge .target ((openWith 59).counts.accept x.regime) = some .b
      ∧ judge .target (OccCounts.accept ⟨59, 0, 41, 0, 0, 0, 0, 0⟩ x.regime) = none
      ∧ (u.engines.get .h0).code = 3 ∧ u.tide.headSlots.get .h0
        = .evaluating ⟨3, 666, 19995, 45600000, 45900000, 0⟩
      ∧ recordCount 65535 1 = 65535 := by decide +kernel

/-- Each verdict counts in its own place. -/
theorem test_rejections_counted :
    OccCounts.reject ⟨9, 0, 0, 0, 0, 0, 0, 0⟩ .clamped = ⟨9, 0, 1, 0, 0, 0, 0, 0⟩
      ∧ OccCounts.reject ⟨9, 0, 0, 65535, 0, 0, 0, 0⟩ .thermal = ⟨9, 0, 0, 65535, 0, 0, 0, 0⟩
      ∧ OccCounts.reject ⟨9, 0, 0, 0, 65534, 0, 0, 0⟩ .tilt = ⟨9, 0, 0, 0, 65535, 0, 0, 0⟩
      ∧ OccCounts.reject ⟨9, 0, 0, 0, 0, 0, 0, 0⟩ .offscale = ⟨9, 0, 0, 0, 0, 1, 0, 0⟩ := by decide

/-- An unrequested step behind a requested one, a slot that is EMPTY and one that is not. -/
theorem witness_SampleReachesTheEngine_places :
    let g : Integration := { nothingOwed with owed := [⟨5, true⟩, ⟨6, false⟩, ⟨7, false⟩] }
    let s := running (.integrating session g) 30
    (s.engines.get .h0).integration? = some (session, g)
      ∧ g.owed = [⟨5, true⟩] ++ ⟨6, false⟩ :: [⟨7, false⟩]
      ∧ s.tide.headSlots.get .h0 = .empty
      ∧ Table.get s.stations session.station = some { fieldStation with chain := [1, 3] }
      ∧ (s.placeOwed .h0).tide.headSlots.get .h0 ≠ .empty
      ∧ (∀ y ∈ integration.owed, y.requested = true) := by decide

/-! ### Tides, coefficients, time -/

/-- The evaluation of "The two-constituent case" for step 5 of occupation 3. -/
def evaluation (isVoid : Bool) : Evaluation :=
  { source := .head .h0, request := ⟨3, 5, 165, 45000000, 45000000, 0⟩
    constituents := twoConstituents, tableGen := 5, isVoid := isVoid }

theorem witness_EvaluationDeliversItsStep :
    let s := { running (.integrating session integration) 30 with
      tide := { TideEngine.reset with evaluation := some (evaluation false) } }
    s.running = true ∧ s.tide.evaluation = some (evaluation false)
      ∧ (evaluation true).isVoid = true ∧ s.engines.get .h0 = .integrating session integration
      ∧ (evaluation false).request.target = session.occupation
      ∧ (∃ x ∈ integration.owed, x.index = (evaluation false).request.step)
      ∧ Table.get s.occupations 3 = some (openWith 30)
      ∧ ((Table.get (after .tideEvaluationComplete s).occupations 3).map Occupation.steps)
        = some [⟨5, 30, some ⟨1055, 0, 5⟩⟩] := by decide

/-- The last step of a REDUCING head, and one of two. -/
theorem witness_EvaluationDeliversItsStep_reducing :
    let two : Integration := { nothingOwed with owed := [⟨5, true⟩, ⟨6, false⟩] }
    let s (g : Integration) := { running (.reducing session g .stop .a) 60 with
      tide := { TideEngine.reset with
        headSlots := (perHead .empty).set .h0 (.evaluating (evaluation false).request)
        evaluation := some (evaluation false) } }
    (s integration).running = true
      ∧ (s integration).engines.get .h0 = .reducing session integration .stop .a
      ∧ (∀ y ∈ integration.owed, y.index = (evaluation false).request.step)
      ∧ (((after .tideEvaluationComplete (s integration)).engines.get .h0) = .idle)
      ∧ (∃ y ∈ two.owed, y.index = 5) ∧ (∃ y ∈ two.owed, y.index ≠ 5)
      ∧ ((after .tideEvaluationComplete (s two)).tide.headSlots.get .h0)
        = .evaluating ⟨3, 6, 195, 45600000, 45900000, 0⟩ := by decide

/-- A result whose step nobody owes, one for another occupation, and one for an idle head. -/
theorem witness_EvaluationDeliversItsStep_discards :
    (∀ y ∈ nothingOwed.owed, y.index ≠ (evaluation false).request.step)
      ∧ (evaluation false).request.target ≠ 4
      ∧ (survey.engines.get .h0).integration? = none := by decide

/-- A TIDE_REDO of occupation 1: its last step, one of two, and a result it does not await. -/
theorem witness_EvaluationDeliversItsStep_redo :
    let e : Evaluation := ⟨.revision, redoRequest, twoConstituents, 5, false⟩
    let s (ks : List Nat) := { redoing (.evaluating redoRequest) with
      inFlight := some (.tideRedo 1 [] ks)
      tide := { TideEngine.reset with
        revisionSlot := .evaluating redoRequest, evaluation := some e } }
    (s [240]).running = true ∧ (s [240]).tide.evaluation = some e ∧ e.source = .revision
      ∧ e.request.target = 1 ∧ e.request.step = 240
      ∧ Table.get (s [240]).occupations 1 = some member
      ∧ (after .tideEvaluationComplete (s [240])).inFlight = none
      ∧ (after .tideEvaluationComplete (s [240, 241])).redoing = some 1
      ∧ (after .tideEvaluationComplete (s [241])).inFlight = some (.tideRedo 1 [] [241]) := by decide

/-- R103: the head request placed earliest goes first, then the next, then the Revision Engine's, though
that was placed before them. -/
theorem test_head_requests_go_first :
    let q (n : Nat) : TideRequest := ⟨n, 1, 45, 0, 0, 0⟩
    let busy := (((survey.placeRequest (.head .h3) (q 3)).placeRequest .revision (q 9)).placeRequest
      (.head .h2) (q 2)).placeRequest (.head .h0) (q 0)
    let next (s : State) := { s with tide := { s.tide with evaluation := none } }.startEvaluation
    let source (s : State) := s.tide.evaluation.map Evaluation.source
    busy.tide.placed = [.revision, .head .h2, .head .h0] ∧ source busy = some (.head .h3)
      ∧ source (next busy) = some (.head .h2) ∧ source (next (next busy)) = some (.head .h0)
      ∧ source (next (next (next busy))) = some .revision
      ∧ (next (next (next busy))).tide.placed = []
      ∧ source (next ((busy.withdraw (.head .h2)))) = some (.head .h0) := by decide

/-- A free engine with a head's request waiting behind the Revision Engine's, with the Revision
Engine's alone, and with none. -/
theorem witness_EvaluationDeliversItsStep_choice :
    let q : TideRequest := ⟨1, 1, 45, 0, 0, 0⟩
    let both : TideEngine :=
      ⟨(perHead .empty).set .h2 (.waiting q), .waiting q, [.revision, .head .h2], none⟩
    let alone : TideEngine := ⟨perHead .empty, .waiting q, [.revision], none⟩
    both.placed = [.revision] ++ .head .h2 :: [] ∧ both.headSlots.get .h2 = .waiting q
      ∧ (∀ h', .head h' ∈ ([.revision] : List TideSource) → ∀ r, both.headSlots.get h' ≠ .waiting r)
      ∧ alone.revisionSlot = .waiting q
      ∧ (∀ h', .head h' ∈ alone.placed → ∀ r, alone.headSlots.get h' ≠ .waiting r)
      ∧ TideEngine.reset.slot .revision = .empty ∧ both.slot (.head .h2) = .waiting q
      ∧ (redoing (.evaluating redoRequest)).tide.slot .revision = .evaluating redoRequest := by
  refine ⟨rfl, rfl, fun h' hm => ?_, rfl, fun h' hm => ?_, rfl, rfl, rfl⟩ <;> simp at hm

theorem witness_TideAttractionBounded : constituentsInRange (List.replicate 12
    ⟨true, .semidiurnal, 281474976710655, 4294967295, -8191, 32767⟩) := by
  unfold constituentsInRange Constituent.inRange
  decide

/-- Entries 0 and 11, species 0 and 2, and an amplitude and a factor beyond their ranges. -/
def entryPayload (i species : Byte) : List Byte :=
  [i, 1, species] ++ beBytes 6 1 ++ beBytes 4 2 ++ beSignedBytes 2 (-32768) ++ beBytes 2 65535

theorem witness_ConstituentWriteMarksSurvey :
    survey.serves ∧ (entryPayload 0 0).length = 17 ∧ ((entryPayload 11 2).getD 0 0).toNat ≤ 11
      ∧ Species.ofCode ((entryPayload 11 2).getD 2 0) = some .semidiurnal
      ∧ Table.wf survey.occupations ∧ Table.get survey.occupations 0 = some opener
      ∧ opener.state = .closed := by decide

/-- Index 12 and species 3. -/
theorem witness_ConstituentWriteMarksSurvey_refused :
    survey.serves ∧ (entryPayload 12 0).length = 17 ∧ 11 < ((entryPayload 12 0).getD 0 0).toNat
      ∧ 2 < ((entryPayload 0 3).getD 2 0).toNat := by decide

/-- A carried spread limit: every station is judged again, and both are counted. -/
theorem witness_ConstantsWrittenAndWorkQueued_spread :
    let p : List Byte := [2] ++ constantsBytes ⟨0, 100, 0⟩
    let t := after (.setConstants 1 p) appliedSurvey
    (2 : Byte).getLsbD 1 = true ∧ (2 : Byte).getLsbD 0 = false ∧ t.revQueue = []
      ∧ (Table.get t.stations 1).bind Station.spread = some 0
      ∧ t.link = .answered (responseFrame 1 ⟨.done, constantsBytes defaultConstants
        ++ beBytes 2 0 ++ beBytes 2 2⟩) := by decide +kernel

theorem witness_ConstantsWrittenAndWorkQueued :
    appliedSurvey.serves ∧ ([7] ++ constantsBytes ⟨0, 100001, 201⟩).length = 11
      ∧ Table.wf appliedSurvey.loops
      ∧ (Table.get appliedSurvey.loops 0).map Loop.state = some .closed
      ∧ (Table.get appliedSurvey.loops 1).map Loop.state = some .opened
      ∧ survey.revQueue = [] ∧ (7 : Byte).getLsbD 0 = true ∧ (4 : Byte).getLsbD 1 = false := by
  decide

/-- A set of 24 breakpoints with fields at the ends of their ranges, and a payload beyond them. -/
def widestSet : CalibrationSet :=
  { calibrationTemplate with
    table := (List.range 24).map fun k => ⟨16777192 + k, 83886075⟩
    tiltZeroX := -32768, tiltZeroY := 32767, tiltGainX := 4095, tiltGainY := 1
    tiltWindow := 20000, settleWindow := 20000, tempZero := -32768, bandN := 1000
    bandE := 10000, kN := -32767, kE := 32767, settleCount := 1000, settlingTimeout := 3600
    headTimeout := 100 }

theorem witness_StagedSetRoundTrip :
    widestSet.inRange ∧ calibrationTemplate.inRange
      ∧ (stageOperands (stagePayload .h3 entryForm)).isSome = true := by
  (repeat' apply And.intro) <;> decide +kernel

/-- A payload of 28 bytes, head 4, 1 and 25 breakpoints, a breakpoint too many, and two equal counts. -/
theorem witness_StagedSetRoundTrip_refused :
    let p := stagePayload .h3 entryForm
    survey.serves ∧ p.length ≤ 512 ∧ (p.take 28).length < 29 ∧ 3 < ((p.set 0 4).getD 0 0).toNat
      ∧ ((p.set 28 1).getD 28 0).toNat < 2 ∧ 24 < ((p.set 28 25).getD 28 0).toNat
      ∧ (p ++ List.replicate 7 0).length ≠ 29 + 7 * (p.getD 28 0).toNat
      ∧ stageOperands (p ++ List.replicate 7 0) = none
      ∧ fieldNat (29 + 7 * (0 + 1)) 3 (p.take 36 ++ (p.drop 29).take 7 ++ p.drop 43) ≤ fieldNat 29 3 p
      ∧ stageOperands (p.take 36 ++ (p.drop 29).take 7 ++ p.drop 43) = none := by decide +kernel

/-- Milliseconds 999 and 1,000; an OPEN occupation and none. -/
theorem witness_SetTimeSetsTheClock :
    survey.serves ∧ 999 < 1000 ∧ 999 ≤ 999 ∧ survey.anyOpen = false
      ∧ (running (.settling session 0 0) 0).serves
      ∧ (running (.settling session 0 0) 0).anyOpen = true := by decide

theorem witness_SyncToPulseArms :
    survey.serves ∧ survey.anyOpen = false ∧ (running (.settling session 0 0) 0).serves
      ∧ (running (.settling session 0 0) 0).anyOpen = true := by decide

/-- The monitor after a pulse at reading 0, with the time base at a given reading. -/
def pulsedAt (reading : Nat) (pendingSet : Option Nat) : State :=
  { survey with
    timeBase := reading
    pulse := { pulsing := true, lastPulse := some 0, offset := none, pendingSet := pendingSet } }

/-- 899 and 900 ms after a pulse, 2,499 and 2,500 ms after it, with and without a set and a time. -/
theorem witness_PulsesMeasuredAndLost :
    survey.running = true ∧ survey.startup = false
      ∧ (pulsedAt 899 none).pulse.lastPulse = some 0 ∧ (pulsedAt 899 none).timeBase < 0 + 900
      ∧ 0 + 900 ≤ (pulsedAt 900 (some 3000)).timeBase
      ∧ (pulsedAt 900 (some 3000)).pulse.pendingSet = some 3000
      ∧ (pulsedAt 900 none).clock = some 20000000
      ∧ ({ pulsedAt 900 none with clock := none }).clock = none
      ∧ (pulsedAt 2500 none).pulse.pulsing = true ∧ 0 + 2500 ≤ (pulsedAt 2500 none).timeBase
      ∧ (pulsedAt 2499 none).timeBase < 0 + 2500 ∧ survey.pulse.pulsing = false := by decide

/-! ### Supply, and the invariants -/

theorem witness_StartChoosesTheSequence :
    survey.backupValid = true ∧ Table.wf survey.loops
      ∧ (after .backupDomainLoss survey).backupValid = false := by decide

/-- The start-up sequence with a good Factory Block and with a bad one. -/
theorem witness_SupplyAndResetEvents :
    starting.running = true ∧ starting.startup = true
      ∧ crc16 starting.factory.covered = starting.factory.crc
      ∧ crc16 ({ factoryBlock with crc := factoryBlock.crc + 1 }).covered
        ≠ ({ factoryBlock with crc := factoryBlock.crc + 1 }).crc
      ∧ survey.factory = factoryBlock ∧ survey.pending = [] ∧ survey.resetLow = false := by
  have other : ∀ x : BitVec 16, x ≠ x + 1 := fun x h => by
    have h1 := congrArg (· - x) h
    simp only [BitVec.sub_self, BitVec.add_sub_cancel, BitVec.add_comm x 1] at h1
    exact absurd h1 (by decide)
  refine ⟨rfl, rfl, ?_, ?_, rfl, rfl, rfl⟩
  · rw [starting, reset_factory]
    exact factoryBlock_crc
  · rw [FactoryBlock.covered_crc, factoryBlock_crc]
    exact other _

/-- Occupation 3 is OPEN on head 0, its engine in SETTLING. -/
def opened : State := running (.settling session 0 20000000) 0

theorem witness_RecordsStayIndexed : survey.recordsIndexed ∧ opened.recordsIndexed := by
  unfold State.recordsIndexed
  decide

theorem opened_chainsAgree : opened.chainsAgree := by
  refine ⟨Table.forall_get ?_, Table.forall_get ?_⟩ <;>
    simp [opened, running, ready, survey, State.reset, baseStation, fieldStation, Station.fresh, openWith,
      opener, member, closer, closedAt, Table.get, Partition.slots, Partition.records]

theorem opened_enginesAgree : opened.enginesAgree := by
  refine fun _ => .inl ⟨rfl, rfl, fun h => ?_⟩
  cases h
  · refine ⟨⟨openWith 0, rfl, rfl, rfl, rfl⟩, Table.forall_get ?_⟩
    decide
  all_goals exact Table.forall_get (by decide)

theorem survey_enginesAgree : survey.enginesAgree := by
  refine fun _ => .inl ⟨rfl, rfl, fun h => ?_⟩
  cases h <;> exact Table.forall_get (by decide)

/-- With the backup domain lost, while its start-up runs. -/
theorem starting_enginesAgree : ({ starting with backupValid := false }).enginesAgree :=
  fun _ => .inr ⟨rfl, .inl rfl, fun h => by cases h <;> rfl⟩

/-- A CLOSING loop with a member, and the OPEN one that its closer opens. -/
theorem survey_loopsSound : survey.loopsSound := by
  refine ⟨Table.forall_get ?_, Table.forall_get (by decide)⟩
  simp [survey, State.reset, opener, member, closer, closedAt, Table.get, Loop.names, PerHead.get,
    perHead]

theorem opened_loopsSound : opened.loopsSound := by
  refine ⟨Table.forall_get ?_, Table.forall_get (by decide)⟩
  simp [opened, running, ready, survey, State.reset, opener, member, closer, closedAt, Table.get, Loop.names,
    PerHead.get, perHead]

/-- The loop of another station keeps its other members when station 1 is retired. -/
theorem witness_RetirementFreesEverything_member :
    survey.loopsSound ∧ Table.wf survey.loops ∧ Table.get survey.stations 1 = some fieldStation
      ∧ survey.chainOpen fieldStation.chain = false
      ∧ (Table.get (after (.retireStation 1 [0, 1]) survey).loops 0).map Loop.members = some []
      ∧ opened.serves ∧ 3 ∈ ({ fieldStation with chain := [1, 3] }).chain
      ∧ Table.get opened.occupations 3 = some (openWith 0)
      ∧ survey.partition.slots ≤ 320 ∧ Table.get survey.stations 319 = none :=
  ⟨survey_loopsSound, by decide, rfl, by decide, by decide, by decide, by decide, rfl, by decide,
    by decide⟩

theorem witness_QueueStaysDistinct :
    ({ survey with revQueue := [⟨.driftApply, 0⟩, ⟨.tideRedo, 0⟩] }).queueDistinct := by
  unfold State.queueDistinct
  decide

theorem witness_CoefficientsStayInRange : staging.coefficientsInRange := by
  have hc : constituentsInRange defaultConstituents := by
    unfold constituentsInRange Constituent.inRange
    decide +kernel
  have hk : defaultConstants.inRange := by
    unfold SurveyConstants.inRange
    decide
  have ht : calibrationTemplate.inRange := by
    (repeat' apply And.intro) <;> decide
  refine ⟨fun h => by cases h <;> exact ht, fun h set hs => ?_, hc, hk, hc, hk, ht⟩
  cases h <;> cases hs
  (repeat' apply And.intro) <;> decide

theorem witness_ValueLawKept : survey.valuesHold := by
  unfold State.valuesHold
  decide

theorem witness_OneOpenLoopPerHead : survey.oneOpenLoop := by
  intro h
  cases h <;> decide

theorem witness_SurveyTimeUnbrokenWhileOpen :
    (running (.settling session 0 0) 0).timeSound ∧ (running (.settling session 0 0) 0).anyOpen = true :=
  ⟨⟨fun t ht => by cases ht; decide, nofun, fun _ => rfl⟩, by decide⟩

/-- A tide-stale occupation and a value-stale station with their items, and a CLOSING loop whose
DRIFT_APPLY is in flight. -/
theorem witness_MarksKeepTheirItems :
    State.marksHaveItems { applying with
      stations := [(1, { fieldStation with valueStale := true })]
      occupations := [(1, { member with tideStale := true })]
      revQueue := [⟨.tideRedo, 1⟩, ⟨.stationValue, 1⟩] } := by
  intro _ _
  refine ⟨fun e he _ _ => ?_, Table.forall_get ?_, fun e he _ => ?_⟩
  · rw [List.mem_singleton] at he
    subst he
    simp [State.redoOwed]
  · simp [applying, survey, State.applyOwed, State.applying]
  · rw [List.mem_singleton] at he
    subst he
    simp

/-- The same loop in flight, every premise of the statement met together. -/
theorem witness_MarksKeepTheirItems_sound :
    applying.marksHaveItems ∧ applying.loopsSound ∧ opened.recordsIndexed ∧ opened.chainsAgree
      ∧ opened.enginesAgree ∧ opened.loopsSound := by
  refine ⟨fun _ _ => ⟨?_, Table.forall_get ?_, by decide⟩, survey_loopsSound,
    witness_RecordsStayIndexed.2, opened_chainsAgree, opened_enginesAgree, opened_loopsSound⟩
  · simp [applying, survey, opener, member, closer, closedAt]
  · simp [applying, survey, State.applyOwed, State.applying]

end Sys2Proof.Tests
end

section
/-! Parts of the records of a table, and what stays when records are put, changed and deleted. -/

namespace Sys2Proof.Machine

namespace Table

variable {α β : Type}

/-- The table with a part of each record in the record's place. -/
def project (g : α → β) (t : Table α) : Table β := t.map fun e => (e.1, g e.2)

theorem get_project (g : α → β) (t : Table α) (k : Nat) :
    get (project g t) k = (get t k).map g := by
  induction t with
  | nil => rfl
  | cons e t ih =>
    rw [show project g (e :: t) = (e.1, g e.2) :: project g t from rfl, get_cons, get_cons, ih]
    split <;> rfl

theorem keys_project (g : α → β) (t : Table α) : (project g t).map (·.1) = t.map (·.1) := by
  simp [project]

/-- Of two tables that agree in a part of every record, each record of one has its like in the
other. -/
theorem get_of_project_eq {g : α → β} {t t' : Table α} (h : project g t = project g t') {k : Nat}
    {a : α} (ha : get t k = some a) : ∃ b, get t' k = some b ∧ g b = g a := by
  have := congrArg (fun x => get x k) h
  simpa [get_project, ha, eq_comm] using this

theorem wf_of_project_eq {g : α → β} {t t' : Table α} (h : project g t = project g t')
    (hw : wf t') : wf t := by
  rwa [wf, ← keys_project g, h, keys_project]

/-- A coarser part agrees where a finer one does. -/
theorem project_comp_eq {γ : Type} {g : α → β} {t t' : Table α} (f : β → γ)
    (h : project g t = project g t') :
    project (fun a => f (g a)) t = project (fun a => f (g a)) t' := by
  simpa [project, Function.comp_def] using congrArg (project f) h

theorem project_modify {g : α → β} {f : α → α} (hf : ∀ a, g (f a) = g a) (t : Table α) (k : Nat) :
    project g (modify t k f) = project g t := by
  simp only [project, modify, List.map_map]
  exact List.map_congr_left fun e _ => by simp only [Function.comp]; split <;> simp [hf]

theorem project_modifyKeys {g : α → β} {f : α → α} (hf : ∀ a, g (f a) = g a) (t : Table α)
    (ks : List Nat) : project g (modifyKeys t ks f) = project g t := by
  simp only [project, modifyKeys, List.map_map]
  exact List.map_congr_left fun e _ => by simp only [Function.comp]; split <;> simp [hf]

/-- Two changes that agree in a part of the record leave tables that agree in it. -/
theorem project_modify_congr {g : α → β} {f f' : α → α} (hf : ∀ a, g (f a) = g (f' a))
    (t : Table α) (k : Nat) : project g (modify t k f) = project g (modify t k f') := by
  simp only [project, modify, List.map_map]
  exact List.map_congr_left fun e _ => by simp only [Function.comp]; split <;> simp [hf]

theorem project_put (g : α → β) (t : Table α) (k : Nat) (a : α) :
    project g (put t k a) = put (project g t) k (g a) := by
  induction t with
  | nil => rfl
  | cons e t ih =>
    simp only [project, List.map_cons, put] at ih ⊢
    split
    · rfl
    · split
      · rfl
      · rw [List.map_cons, ih]

theorem project_del (g : α → β) (t : Table α) (k : Nat) :
    project g (del t k) = del (project g t) k := by
  simp only [project, del, List.filter_map]
  rfl

/-- The records kept by a test on their keys. -/
theorem get_filterKeys (t : Table α) (p : Nat → Bool) (k : Nat) :
    get (t.filter fun e => p e.1) k = if p k then get t k else none := by
  induction t with
  | nil => simp
  | cons e t ih =>
    by_cases he : p e.1 <;> by_cases hk : k = e.1 <;> simp_all [get_cons]

/-! ## No two records alike in a part -/

/-- In a table in canonical form a part is held once when no two keys hold it. -/
theorem nodup_map_iff {t : Table α} (h : wf t) (g : α → β) :
    (t.map fun e => g e.2).Nodup
      ↔ ∀ k k' a a', get t k = some a → get t k' = some a' → g a = g a' → k = k' := by
  have hkeys : t.Nodup := List.Nodup.of_map _ (h.imp Nat.ne_of_lt)
  rw [List.nodup_map_iff_inj_on hkeys]
  constructor
  · intro hi k k' a a' ha ha' hg
    exact congrArg Prod.fst (hi _ (mem_of_get ha) _ (mem_of_get ha') hg)
  · rintro hi ⟨k, a⟩ hx ⟨k', a'⟩ hy hg
    obtain rfl := hi k k' a a' (get_of_mem h hx) (get_of_mem h hy) hg
    rw [Option.some.inj ((get_of_mem h hx).symm.trans (get_of_mem h hy))]

/-- A record is put whose part no record of another key holds. -/
theorem nodup_map_put {t : Table α} (h : wf t) (g : α → β) {k : Nat} {a : α}
    (hn : (t.map fun e => g e.2).Nodup)
    (ha : ∀ k' a', get t k' = some a' → k' ≠ k → g a' ≠ g a) :
    ((put t k a).map fun e => g e.2).Nodup := by
  rw [nodup_map_iff h] at hn
  rw [nodup_map_iff (wf_put h k a)]
  intro k1 k2 a1 a2 h1 h2 hg
  rw [get_put] at h1 h2
  split at h1 <;> split at h2
  · simp_all
  · next hk1 hk2 => cases h1; exact absurd hg.symm (ha k2 a2 h2 hk2)
  · next hk1 hk2 => cases h2; exact absurd hg (ha k1 a1 h1 hk1)
  · exact hn k1 k2 a1 a2 h1 h2 hg

theorem nodup_map_filter (t : Table α) (p : Nat × α → Bool) (g : α → β)
    (hn : (t.map fun e => g e.2).Nodup) : ((t.filter p).map fun e => g e.2).Nodup :=
  hn.sublist ((List.filter_sublist (p := p)).map _)

/-! ## The lowest FREE key -/

theorem firstFreeFrom_eq_some {t : Table α} {n k j : Nat} :
    firstFreeFrom t n k = some j
      ↔ k ≤ j ∧ j < k + n ∧ get t j = none ∧ ∀ i, k ≤ i → i < j → (get t i).isSome = true := by
  induction n generalizing k with
  | zero => simp only [firstFreeFrom, reduceCtorEq, false_iff]; omega
  | succ n ih =>
    rw [firstFreeFrom]
    split
    · next hk =>
      rw [Option.isNone_iff_eq_none] at hk
      constructor
      · rintro ⟨⟩
        exact ⟨le_rfl, by omega, hk, by omega⟩
      · rintro ⟨h1, -, -, h4⟩
        rcases Nat.eq_or_lt_of_le h1 with rfl | hlt
        · rfl
        · simpa [hk] using h4 k le_rfl hlt
    · next hk =>
      rw [ih]
      constructor
      · rintro ⟨h1, h2, h3, h4⟩
        refine ⟨by omega, by omega, h3, fun i hi hij => ?_⟩
        rcases Nat.eq_or_lt_of_le hi with rfl | hlt
        · exact Option.isSome_iff_ne_none.2 fun h => hk (by simp [h])
        · exact h4 i hlt hij
      · rintro ⟨h1, h2, h3, h4⟩
        rcases Nat.eq_or_lt_of_le h1 with rfl | hlt
        · simp [h3] at hk
        · exact ⟨hlt, by omega, h3, fun i hi => h4 i (by omega)⟩

/-- What the lowest FREE key below a limit is (R2, R14). -/
theorem firstFree_eq_some {t : Table α} {limit k : Nat} :
    firstFree t limit = some k
      ↔ k < limit ∧ get t k = none ∧ ∀ j, j < k → (get t j).isSome = true := by
  simp [firstFree, firstFreeFrom_eq_some]

end Table

end Sys2Proof.Machine
end

section
/-! Operations that leave the indexed parts of the records as they are: which stations and
occupations there are, their names, chains and places, and what the engines hold. -/

namespace Sys2Proof.Machine

/-- A station record without the fields its STATION_VALUE item writes (R144 to R148). -/
def Station.bare (st : Station) : Station :=
  { st with
    state := .declared, adopted := none, spread := none, weightTotal := 0, discordant := false
    valueStale := false }

/-- The station and head of an occupation, and whether it is OPEN. -/
structure Place where
  station : Nat
  head : Head
  isOpen : Bool

/-- Where an occupation record stands. -/
def Occupation.place (o : Occupation) : Place := ⟨o.station, o.head, o.state == .opened⟩

/-- From `s` to `t` stations, name index and occupations keep their numbers and all that indexes them,
the engines hold the same sessions, and supply, reset and start-up are as they were. -/
structure State.sameRecords (s t : State) : Prop where
  partition : t.partition = s.partition
  stations : Table.project Station.bare t.stations = Table.project Station.bare s.stations
  nameIndex : t.nameIndex = s.nameIndex
  occupations :
    Table.project Occupation.place t.occupations = Table.project Occupation.place s.occupations
  loops : Table.wf s.loops → Table.wf t.loops
  sessions : ∀ h, (t.engines.get h).session? = (s.engines.get h).session?
  vdd : t.vdd = s.vdd
  backupValid : t.backupValid = s.backupValid
  startup : t.startup = s.startup
  resetLow : t.resetLow = s.resetLow

namespace State.sameRecords

theorem refl (s : State) : s.sameRecords s :=
  ⟨rfl, rfl, rfl, rfl, id, fun _ => rfl, rfl, rfl, rfl, rfl⟩

theorem trans {s t u : State} (h : s.sameRecords t) (h' : t.sameRecords u) : s.sameRecords u :=
  ⟨h'.partition.trans h.partition, h'.stations.trans h.stations, h'.nameIndex.trans h.nameIndex,
    h'.occupations.trans h.occupations, fun hw => h'.loops (h.loops hw),
    fun k => (h'.sessions k).trans (h.sessions k), h'.vdd.trans h.vdd,
    h'.backupValid.trans h.backupValid, h'.startup.trans h.startup, h'.resetLow.trans h.resetLow⟩

/-- The same session set on both sides. -/
theorem setEngine {s t : State} (h : s.sameRecords t) (k : Head) (e : Engine) :
    (s.setEngine k e).sameRecords (t.setEngine k e) where
  __ := h
  sessions h' := by
    simp only [setEngine_engines, PerHead.get_set]
    split
    · rfl
    · exact h.sessions h'

end State.sameRecords

/-! ## Changes of one record -/

theorem State.sameRecords_modifyOccupation (s : State) (n : Nat) {f : Occupation → Occupation}
    (hf : ∀ o, (f o).place = o.place := by exact fun _ => rfl) :
    s.sameRecords (s.modifyOccupation n f) where
  __ := State.sameRecords.refl s
  occupations := Table.project_modify hf _ _

/-- Two changes of a record that place it alike. -/
theorem State.sameRecords_modifyOccupation_congr (s : State) (n : Nat) {f f' : Occupation → Occupation}
    (hf : ∀ o, (f' o).place = (f o).place := by exact fun _ => rfl) :
    (s.modifyOccupation n f).sameRecords (s.modifyOccupation n f') where
  __ := State.sameRecords.refl s
  occupations := Table.project_modify_congr hf _ _
  loops := id

theorem State.sameRecords_modifyKeys (s : State) (ns : List Nat) {f : Occupation → Occupation}
    (hf : ∀ o, (f o).place = o.place := by exact fun _ => rfl) :
    s.sameRecords { s with occupations := Table.modifyKeys s.occupations ns f } where
  __ := State.sameRecords.refl s
  occupations := Table.project_modifyKeys hf _ _

theorem State.sameRecords_modifyStation (s : State) (k : Nat) {f : Station → Station}
    (hf : ∀ st, (f st).bare = st.bare := by exact fun _ => rfl) :
    s.sameRecords (s.modifyStation k f) where
  __ := State.sameRecords.refl s
  stations := Table.project_modify hf _ _

theorem State.sameRecords_modifyLoop (s : State) (k : Nat) (f : Loop → Loop) :
    s.sameRecords (s.modifyLoop k f) where
  __ := State.sameRecords.refl s
  loops hw := Table.wf_modify hw _ _

theorem State.sameRecords_delLoop (s : State) (k : Nat) :
    s.sameRecords { s with loops := Table.del s.loops k } where
  __ := State.sameRecords.refl s
  loops hw := Table.wf_del hw _

theorem State.sameRecords_putLoop (s : State) (k : Nat) (l : Loop) :
    s.sameRecords { s with loops := Table.put s.loops k l } where
  __ := State.sameRecords.refl s
  loops hw := Table.wf_put hw _ _

/-- An engine goes on with the session it holds. -/
theorem State.sameRecords_setEngine (s : State) {h : Head} {e : Engine}
    (he : e.session? = (s.engines.get h).session?) : s.sameRecords (s.setEngine h e) where
  __ := State.sameRecords.refl s
  sessions h' := by
    rw [setEngine_engines, PerHead.get_set]
    split
    · next hh => rw [he, hh]
    · rfl

theorem State.sameRecords_setNotice (s : State) (n : Notice) : s.sameRecords (s.setNotice n) :=
  { State.sameRecords.refl s with }

theorem State.sameRecords_notices (s : State) (n : NoticeSet) :
    s.sameRecords { s with notices := n } :=
  { State.sameRecords.refl s with }

theorem State.sameRecords_setChannel (s : State) (h : Head) (c : Channel) :
    s.sameRecords (s.setChannel h c) :=
  { State.sameRecords.refl s with }

theorem State.sameRecords_respond (s : State) (tag : Byte) (a : Answer) :
    s.sameRecords (s.respond tag a) :=
  { State.sameRecords.refl s with }

theorem State.sameRecords_revQueue (s : State) (q : List RevItem) :
    s.sameRecords { s with revQueue := q } :=
  { State.sameRecords.refl s with }

theorem State.sameRecords_inFlight (s : State) (f : Option InFlight) :
    s.sameRecords { s with inFlight := f } :=
  { State.sameRecords.refl s with }

/-! ## The Tide Engine -/

theorem State.sameRecords_startEvaluation (s : State) : s.sameRecords s.startEvaluation := by
  obtain ⟨t, h⟩ := s.startEvaluation_frame
  rw [h]
  exact { State.sameRecords.refl s with }

theorem State.sameRecords_placeRequest (s : State) (src : TideSource) (r : TideRequest) :
    s.sameRecords (s.placeRequest src r) := by
  obtain ⟨t, h⟩ := s.placeRequest_frame src r
  rw [h]
  exact { State.sameRecords.refl s with }

theorem State.sameRecords_withdraw (s : State) (src : TideSource) :
    s.sameRecords (s.withdraw src) := by
  obtain ⟨t, h⟩ := s.withdraw_frame src
  rw [h]
  exact { State.sameRecords.refl s with }

@[simp] theorem Engine.session?_withOwed (owed : List OwedStep) (e : Engine) :
    (e.withOwed owed).session? = e.session? := by
  cases e <;> rfl

theorem State.sameRecords_placeOwed (s : State) (h : Head) : s.sameRecords (s.placeOwed h) := by
  unfold State.placeOwed
  split
  · split
    · exact (s.sameRecords_setEngine (Engine.session?_withOwed _ _)).trans
        (State.sameRecords_placeRequest _ _ _)
    · exact .refl s
  · exact .refl s

/-! ## The Revision Engine -/

theorem State.sameRecords_queueItem (s : State) (i : RevItem) : s.sameRecords (s.queueItem i) := by
  obtain ⟨kind, target⟩ := i
  cases kind
  case tideRedo => exact s.sameRecords_revQueue _
  case driftApply => exact (s.sameRecords_revQueue _).trans (State.sameRecords_modifyLoop _ _ _)
  case stationValue => exact (s.sameRecords_revQueue _).trans (State.sameRecords_modifyStation _ _)

theorem State.sameRecords_queueAll (is : List RevItem) :
    ∀ s : State, s.sameRecords (s.queueAll is) := by
  induction is with
  | nil => exact .refl
  | cons i is ih => exact fun s => (s.sameRecords_queueItem i).trans (ih _)

theorem State.sameRecords_dropInFlight (s : State) : s.sameRecords s.dropInFlight := by
  obtain ⟨f, t, h⟩ := s.dropInFlight_frame
  rw [h]
  exact { State.sameRecords.refl s with }

theorem State.sameRecords_removeItems (s : State) (p : RevItem → Bool) :
    s.sameRecords (s.removeItems p) :=
  { State.sameRecords.refl s with }

theorem State.sameRecords_processStation (s : State) (k : Nat) :
    s.sameRecords (s.processStation k) := by
  unfold State.processStation
  split
  · exact .refl s
  · have hp (os) := s.sameRecords_modifyStation k
      (f := fun st => st.processed s.constants.spreadLimit os) fun _ => rfl
    dsimp only
    split
    · exact (hp _).trans (State.sameRecords_setNotice _ _)
    · exact hp _

theorem State.sameRecords_takeRedo (s : State) (o : Nat) : s.sameRecords (s.takeRedo o) := by
  obtain ⟨f, t, h⟩ := s.takeRedo_frame o
  rw [h]
  exact { State.sameRecords.refl s with }

theorem State.sameRecords_requestRedoStep (s : State) : s.sameRecords s.requestRedoStep := by
  obtain ⟨t, h⟩ := s.requestRedoStep_frame
  rw [h]
  exact { State.sameRecords.refl s with }

theorem sameRecords_takeItems (fuel : Nat) : ∀ s : State, s.sameRecords (takeItems fuel s) := by
  induction fuel with
  | zero => exact .refl
  | succ fuel ih =>
    intro s
    unfold takeItems
    split
    · next i rest _ _ =>
      have hr := s.sameRecords_revQueue rest
      dsimp only
      split
      · exact hr.trans ((State.sameRecords_processStation _ _).trans (ih _))
      · exact hr.trans (State.sameRecords_takeRedo _ _)
      · split
        · exact (s.sameRecords_revQueue _).trans (ih _)
        · exact hr.trans (State.sameRecords_inFlight _ _)
    · exact .refl s

theorem State.sameRecords_revise (b : Bool) (s : State) : s.sameRecords (State.revise b s) := by
  unfold State.revise
  dsimp only
  split
  · exact (sameRecords_takeItems _ s).trans (State.sameRecords_setNotice _ _)
  · exact sameRecords_takeItems _ s

theorem State.sameRecords_restartRedo (s : State) (os : List Nat) :
    s.sameRecords (s.restartRedo os) := by
  obtain ⟨q, f, t, h⟩ := s.restartRedo_frame os
  rw [h]
  exact { State.sameRecords.refl s with }

theorem State.sameRecords_markTideStale (s : State) (os : List Nat) :
    s.sameRecords (s.markTideStale os) :=
  (s.sameRecords_modifyKeys os).trans
    ((State.sameRecords_queueAll _ _).trans (State.sameRecords_restartRedo _ _))

theorem State.sameRecords_completeRedo (s : State) (n : Nat) (held : List HeldResult) :
    s.sameRecords (s.completeRedo n held) := by
  have hf := s.sameRecords_inFlight none
  unfold State.completeRedo
  split
  · exact hf
  · exact hf.trans ((State.sameRecords_modifyOccupation _ n).trans
      ((State.sameRecords_queueAll _ _).trans (State.sameRecords_queueItem _ _)))

theorem State.sameRecords_redoResult (s : State) (target step : Nat) (v : TideValue) :
    s.sameRecords (s.redoResult target step v) := by
  unfold State.redoResult
  split
  · split
    · dsimp only
      split
      · exact (s.sameRecords_completeRedo _ _).trans (State.sameRecords_revise _ _)
      · exact (s.sameRecords_inFlight _).trans (State.sameRecords_requestRedoStep _)
    · exact .refl s
  · exact .refl s

/-! ## The Drift Unit -/

theorem Occupation.place_anchoring (k : Nat) (a : Bool) (o : Occupation) :
    (o.anchoring k a).place = o.place := by
  cases a <;> rfl

theorem Occupation.place_unanchored (o : Occupation) : o.unanchored.place = o.place := by
  unfold Occupation.unanchored
  split <;> rfl

theorem State.sameRecords_startLoop (s : State) (n : Nat) (o : Occupation) (a : Bool) :
    s.sameRecords (s.startLoop n o a) := by
  unfold State.startLoop
  split
  · exact s.sameRecords_setNotice _
  · exact (s.sameRecords_putLoop _ _).trans
      (State.sameRecords_modifyOccupation _ n (Occupation.place_anchoring _ a))

theorem State.sameRecords_joinLoop (s : State) (k : Nat) (l : Loop) (n : Nat) :
    s.sameRecords (s.joinLoop k l n) := by
  unfold State.joinLoop
  split
  · exact (s.sameRecords_modifyLoop k _).trans
      (State.sameRecords_modifyOccupation _ n)
  · exact s.sameRecords_setNotice _

theorem State.sameRecords_closeLoop (s : State) (k n : Nat) (o : Occupation) :
    s.sameRecords (s.closeLoop k n o) :=
  (s.sameRecords_modifyLoop k _).trans ((State.sameRecords_modifyOccupation _ n).trans
    ((State.sameRecords_queueItem _ _).trans (State.sameRecords_startLoop _ n o false)))

theorem State.sameRecords_handOver (s : State) (n : Nat) : s.sameRecords (s.handOver n) := by
  unfold State.handOver
  split
  · exact .refl s
  · split
    · split
      · exact s.sameRecords_closeLoop _ _ _
      · exact s.sameRecords_joinLoop _ _ _
    · split
      · exact s.sameRecords_startLoop _ _ _
      · exact .refl s

theorem State.sameRecords_applyLoop (s : State) (k : Nat) (l : Loop) (c : Nat)
    (oa ob : Occupation) : s.sameRecords (s.applyLoop k l c oa ob) :=
  (s.sameRecords_modifyLoop k _).trans
    ((State.sameRecords_modifyKeys _ (l.members ++ [c])).trans
      ((State.sameRecords_queueAll _ _).trans (State.sameRecords_setNotice _ _)))

theorem State.sameRecords_completeApply (s : State) (k : Nat) :
    s.sameRecords (s.completeApply k) := by
  have hf := s.sameRecords_inFlight none
  unfold State.completeApply
  dsimp only
  split
  · exact hf
  · split
    · exact hf
    · split
      · exact hf.trans (State.sameRecords_applyLoop _ _ _ _ _ _)
      · exact hf

theorem State.sameRecords_endApply (s : State) : s.sameRecords s.endApply := by
  unfold State.endApply
  split
  · exact (s.sameRecords_completeApply _).trans (State.sameRecords_revise _ _)
  · exact .refl s

theorem State.sameRecords_withdrawTerms (s : State) (l : Loop) :
    s.sameRecords (s.withdrawTerms l) := by
  have hm := s.sameRecords_modifyKeys l.members (f := Occupation.unmembered)
  unfold State.withdrawTerms
  dsimp only
  split
  · exact hm.trans ((State.sameRecords_modifyOccupation _ _).trans
      (State.sameRecords_modifyOccupation _ _ Occupation.place_unanchored))
  · exact hm.trans (State.sameRecords_modifyOccupation _ _ Occupation.place_unanchored)

theorem State.sameRecords_dropApply (s : State) (k : Nat) : s.sameRecords (s.dropApply k) := by
  obtain ⟨q, f, t, h⟩ := s.dropApply_frame k
  rw [h]
  exact { State.sameRecords.refl s with }

theorem State.sameRecords_abandon (s : State) (k : Nat) : s.sameRecords (s.abandon k) := by
  unfold State.abandon
  split
  · exact .refl s
  · exact (s.sameRecords_withdrawTerms _).trans ((State.sameRecords_dropApply _ k).trans
      ((State.sameRecords_queueAll _ _).trans (State.sameRecords_delLoop _ k)))

theorem State.sameRecords_abandonAll (ks : List Nat) :
    ∀ s : State, s.sameRecords (s.abandonAll ks) := by
  induction ks with
  | nil => exact .refl
  | cons k ks ih => exact fun s => (s.sameRecords_abandon k).trans (ih _)

theorem State.sameRecords_removeMember (s : State) (k n : Nat) :
    s.sameRecords (s.removeMember k n) := by
  have hm (f : Loop → Loop) := s.sameRecords_modifyLoop k f
  unfold State.removeMember
  split
  · exact .refl s
  · dsimp only
    split
    · split
      · exact (hm _).trans (State.sameRecords_inFlight _ _)
      · exact hm _
    · exact hm _

theorem State.sameRecords_leaveLoop (s : State) (n : Nat) : s.sameRecords (s.leaveLoop n) := by
  unfold State.leaveLoop
  split
  · exact s.sameRecords_removeMember _ n
  · exact .refl s

theorem State.sameRecords_leaveLoops (ns : List Nat) :
    ∀ s : State, s.sameRecords (ns.foldl State.leaveLoop s) := by
  induction ns with
  | nil => exact .refl
  | cons n ns ih => exact fun s => (s.sameRecords_leaveLoop n).trans (ih _)

theorem State.sameRecords_resolveRoles (s : State) (n : Nat) (o : Occupation) :
    s.sameRecords (s.resolveRoles n o) := by
  unfold State.resolveRoles
  dsimp only
  split
  · exact (s.sameRecords_removeMember _ n).trans (State.sameRecords_abandonAll _ _)
  · exact State.sameRecords_abandonAll _ s

theorem State.sameRecords_release (s : State) (k : Nat) (l : Loop) :
    s.sameRecords (s.release k l) :=
  (s.sameRecords_modifyKeys (l.members ++ l.closer.toList)).trans
    ((State.sameRecords_modifyOccupation _ l.opener).trans
      (State.sameRecords_delLoop _ k))

theorem State.sameRecords_dropRedo (s : State) (n : Nat) : s.sameRecords (s.dropRedo n) := by
  unfold State.dropRedo
  dsimp only
  split
  · exact (s.sameRecords_removeItems _).trans (State.sameRecords_dropInFlight _)
  · exact s.sameRecords_removeItems _

/-! ## The Occupation Engines, while their session goes on -/

theorem State.sameRecords_enterIntegrating (s : State) (h : Head) (start : TimeMs) :
    s.sameRecords (s.enterIntegrating h start) := by
  unfold State.enterIntegrating
  split
  · next he => exact s.sameRecords_setEngine (by rw [he]; rfl)
  · exact .refl s

theorem State.sameRecords_settleReached (s : State) (h : Head) :
    s.sameRecords (s.settleReached h) := by
  unfold State.settleReached
  split
  · split
    · exact s.sameRecords_enterIntegrating h _
    · exact .refl s
  · exact .refl s

theorem State.sameRecords_integrateSample (s : State) {h : Head} {w : Session} {g : Integration}
    (he : s.engines.get h = .integrating w g) (x : Sample) :
    s.sameRecords (s.integrateSample h w g x) :=
  (s.sameRecords_modifyOccupation w.occupation).trans
    ((State.sameRecords_setEngine _ (by rw [State.modifyOccupation_engines, he]; rfl)).trans
      (State.sameRecords_placeOwed _ h))

theorem State.sameRecords_engineCorrupt (s : State) (h : Head) :
    s.sameRecords (s.engineCorrupt h) := by
  unfold State.engineCorrupt
  split
  · exact s.sameRecords_modifyOccupation _
  · exact .refl s

theorem State.sameRecords_engineGap (s : State) (h : Head) (m : Nat) :
    s.sameRecords (s.engineGap h m) := by
  unfold State.engineGap
  split
  · exact s.sameRecords_modifyOccupation _
  · exact .refl s

theorem State.sameRecords_engineHeadLost (s : State) (h : Head) :
    s.sameRecords (s.engineHeadLost h) := by
  unfold State.engineHeadLost
  split
  · next he => exact s.sameRecords_setEngine (by rw [he]; rfl)
  · exact .refl s

theorem State.sameRecords_loseHead (s : State) (h : Head) : s.sameRecords (s.loseHead h) := by
  unfold State.loseHead
  split
  · exact (s.sameRecords_setChannel h _).trans ((State.sameRecords_setNotice _ _).trans
      (State.sameRecords_engineHeadLost _ h))
  · exact .refl s

theorem State.sameRecords_countCorrupt (s : State) (h : Head) (r : Receiver) :
    s.sameRecords (s.countCorrupt h r) :=
  (s.sameRecords_setChannel h _).trans (State.sameRecords_engineCorrupt _ h)

theorem State.sameRecords_tick (s : State) : s.sameRecords s.tick := { State.sameRecords.refl s with }

end Sys2Proof.Machine
end

section
/-! The three invariants of the indexed records (R2, R8; R1, R11; R44), kept by an operation. -/

namespace Sys2Proof.Machine

/-- From `s` to `t` the indexing of the records is kept; from an indexed state the agreement of chains
and pool; and from a state with both the agreement of engines and OPEN occupations. -/
structure State.keepsRecords (s t : State) : Prop where
  indexed : s.recordsIndexed → t.recordsIndexed
  chains : s.recordsIndexed → s.chainsAgree → t.chainsAgree
  engines : s.recordsIndexed → s.chainsAgree → s.enginesAgree → t.enginesAgree

theorem State.keepsRecords.refl (s : State) : s.keepsRecords s :=
  ⟨id, fun _ => id, fun _ _ => id⟩

theorem State.keepsRecords.trans {s t u : State} (h : s.keepsRecords t) (h' : t.keepsRecords u) :
    s.keepsRecords u where
  indexed hi := h'.indexed (h.indexed hi)
  chains hi hc := h'.chains (h.indexed hi) (h.chains hi hc)
  engines hi hc he := h'.engines (h.indexed hi) (h.chains hi hc) (h.engines hi hc he)

/-- An operation may use that the records it begins with are indexed. -/
theorem State.keepsRecords_of_indexed {s t : State} (h : s.recordsIndexed → s.keepsRecords t) :
    s.keepsRecords t :=
  ⟨fun hi => (h hi).indexed hi, fun hi => (h hi).chains hi, fun hi => (h hi).engines hi⟩

/-! ## Operations that leave the indexed parts as they are -/

theorem Station.chain_of_bare {st st' : Station} (h : st'.bare = st.bare) : st'.chain = st.chain := by
  have hc : st'.bare.chain = st.bare.chain := by rw [h]
  exact hc

theorem Occupation.isOpen_of_place {o o' : Occupation} (h : o'.place = o.place) :
    o'.state = .opened ↔ o.state = .opened := by
  simpa [Occupation.place] using congrArg Place.isOpen h

/-- Records whose stations keep their numbers and names stay indexed. -/
theorem State.recordsIndexed_of_names {s t : State} (hi : s.recordsIndexed)
    (hn : Table.project Station.name t.stations = Table.project Station.name s.stations)
    (hx : t.nameIndex = s.nameIndex) (ho : Table.wf s.occupations → Table.wf t.occupations)
    (hl : Table.wf s.loops → Table.wf t.loops) : t.recordsIndexed := by
  obtain ⟨hst, hoc, hlo, hix, hnd⟩ := hi
  refine ⟨Table.wf_of_project_eq hn hst, ho hoc, hl hlo, hx.trans (hix.trans hn.symm), ?_⟩
  have hn' := congrArg (List.map (·.2)) hn
  simp only [Table.project, List.map_map, Function.comp_def] at hn'
  rwa [hn']

namespace State.sameRecords

variable {s t : State}

theorem get_station (h : s.sameRecords t) {k : Nat} {st : Station}
    (hg : Table.get t.stations k = some st) :
    ∃ st', Table.get s.stations k = some st' ∧ st'.bare = st.bare :=
  Table.get_of_project_eq h.stations hg

theorem get_occupation (h : s.sameRecords t) {n : Nat} {o : Occupation}
    (hg : Table.get t.occupations n = some o) :
    ∃ o', Table.get s.occupations n = some o' ∧ o'.place = o.place :=
  Table.get_of_project_eq h.occupations hg

theorem symm_station (h : s.sameRecords t) {k : Nat} {st : Station}
    (hg : Table.get s.stations k = some st) :
    ∃ st', Table.get t.stations k = some st' ∧ st'.bare = st.bare :=
  Table.get_of_project_eq h.stations.symm hg

theorem symm_occupation (h : s.sameRecords t) {n : Nat} {o : Occupation}
    (hg : Table.get s.occupations n = some o) :
    ∃ o', Table.get t.occupations n = some o' ∧ o'.place = o.place :=
  Table.get_of_project_eq h.occupations.symm hg

theorem names (h : s.sameRecords t) :
    Table.project Station.name t.stations = Table.project Station.name s.stations :=
  Table.project_comp_eq (g := Station.bare) Station.name h.stations

theorem recordsIndexed (h : s.sameRecords t) (hi : s.recordsIndexed) : t.recordsIndexed :=
  State.recordsIndexed_of_names hi h.names h.nameIndex (Table.wf_of_project_eq h.occupations) h.loops

theorem chainsAgree (h : s.sameRecords t) : s.chainsAgree → t.chainsAgree := by
  rintro ⟨hst, hoc⟩
  refine ⟨fun k st hg => ?_, fun n o hg => ?_⟩
  · obtain ⟨st', hg', hb⟩ := h.get_station hg
    have hc := Station.chain_of_bare hb
    obtain ⟨hk, hnd, hlen, hrec⟩ := hst k st' hg'
    rw [hc] at hnd hlen hrec
    refine ⟨h.partition ▸ hk, hnd, hlen, fun n hn => ?_⟩
    obtain ⟨o, ho, hs⟩ := hrec n hn
    obtain ⟨o', ho', hp⟩ := h.symm_occupation ho
    exact ⟨o', ho', (congrArg Place.station hp).trans hs⟩
  · obtain ⟨o', ho', hp⟩ := h.get_occupation hg
    obtain ⟨hn, st, hst', hmem⟩ := hoc n o' ho'
    obtain ⟨st', hg', hb⟩ := h.symm_station hst'
    refine ⟨h.partition ▸ hn, st', ?_, ?_⟩
    · rw [← hg', show o.station = o'.station from congrArg Place.station hp.symm]
    · rwa [Station.chain_of_bare hb]

theorem engineHolds (h : s.sameRecords t) {k : Head} (hk : s.engineHolds k) : t.engineHolds k := by
  unfold State.engineHolds at hk ⊢
  rw [h.sessions k]
  cases hw : (s.engines.get k).session? with
  | none =>
    simp only [hw] at hk ⊢
    intro n o ho hh hs
    obtain ⟨o', ho', hp⟩ := h.get_occupation ho
    exact hk n o' ho' ((congrArg Place.head hp).trans hh) ((Occupation.isOpen_of_place hp).2 hs)
  | some w =>
    simp only [hw] at hk ⊢
    obtain ⟨⟨o, ho, hs, hh, hst⟩, huniq⟩ := hk
    obtain ⟨o', ho', hp⟩ := h.symm_occupation ho
    refine ⟨⟨o', ho', (Occupation.isOpen_of_place hp).2 hs, (congrArg Place.head hp).trans hh,
      (congrArg Place.station hp).trans hst⟩, fun n x hx hxh hxs => ?_⟩
    obtain ⟨x', hx', hpx⟩ := h.get_occupation hx
    exact huniq n x' hx' ((congrArg Place.head hpx).trans hxh) ((Occupation.isOpen_of_place hpx).2 hxs)

end State.sameRecords

theorem Engine.session?_eq_none {e : Engine} : e.session? = none ↔ e = .idle := by
  cases e <;> simp [Engine.session?]

theorem State.sameRecords.enginesAgree {s t : State} (h : s.sameRecords t) :
    s.enginesAgree → t.enginesAgree := by
  intro he hv
  rw [h.vdd] at hv
  rw [h.backupValid, h.startup, h.resetLow]
  refine (he hv).imp (fun ⟨hb, hs, hk⟩ => ⟨hb, hs, fun k => h.engineHolds (hk k)⟩)
    fun ⟨hb, hs, hk⟩ => ⟨hb, hs, fun k => ?_⟩
  rw [← Engine.session?_eq_none, h.sessions, Engine.session?_eq_none]
  exact hk k

theorem State.sameRecords.keeps {s t : State} (h : s.sameRecords t) : s.keepsRecords t :=
  ⟨h.recordsIndexed, fun _ => h.chainsAgree, fun _ _ => h.enginesAgree⟩

/-! ## The end of a session -/

/-- The OPEN occupation of a session has come to a closing state, and its head's engine is IDLE. -/
def State.endSession (s : State) (h : Head) (w : Session) (c : OccState) : State :=
  (s.modifyOccupation w.occupation fun o => { o with state := c }).setEngine h .idle

theorem State.get_endSession (s : State) (h : Head) (w : Session) (c : OccState) (n : Nat) :
    Table.get (s.endSession h w c).occupations n
      = if n = w.occupation then (Table.get s.occupations n).map fun o => { o with state := c }
        else Table.get s.occupations n := by
  rw [State.endSession, setEngine_occupations, modifyOccupation_occupations, Table.get_modify]

theorem State.endSession_recordsIndexed {s : State} (h : Head) (w : Session) (c : OccState) :
    s.recordsIndexed → (s.endSession h w c).recordsIndexed := by
  rintro ⟨hst, hoc, hl, hix, hnd⟩
  exact ⟨hst, Table.wf_modify (k := w.occupation) (f := fun o => { o with state := c }) hoc, hl, hix,
    hnd⟩

theorem State.endSession_chainsAgree {s : State} (h : Head) (w : Session) (c : OccState) :
    s.chainsAgree → (s.endSession h w c).chainsAgree := by
  rintro ⟨hst, hoc⟩
  refine ⟨fun k st hg => ?_, fun n o hg => ?_⟩
  · obtain ⟨hk, hnd, hlen, hrec⟩ := hst k st hg
    refine ⟨hk, hnd, hlen, fun n hn => ?_⟩
    obtain ⟨o, ho, hs⟩ := hrec n hn
    rw [State.get_endSession, ho]
    split
    · exact ⟨_, rfl, hs⟩
    · exact ⟨o, rfl, hs⟩
  · rw [State.get_endSession] at hg
    split at hg
    · obtain ⟨o', ho', rfl⟩ := Option.map_eq_some_iff.1 hg
      exact hoc n o' ho'
    · exact hoc n o hg

theorem State.endSession_engineHolds {s : State} {h : Head} {w : Session} {c : OccState}
    (hc : c ≠ .opened) (hw : (s.engines.get h).session? = some w) (hh : s.engineHolds h) {k : Head}
    (hk : s.engineHolds k) : (s.endSession h w c).engineHolds k := by
  simp only [State.engineHolds, hw] at hh
  obtain ⟨⟨ow, how, hows, howh, -⟩, huniq⟩ := hh
  unfold State.engineHolds at hk ⊢
  simp only [State.get_endSession]
  by_cases hkh : k = h
  · subst hkh
    simp only [State.endSession, setEngine_engines, PerHead.get_set_same, Engine.session?]
    intro n o ho hoh hos
    split at ho
    · obtain ⟨o', -, rfl⟩ := Option.map_eq_some_iff.1 ho
      exact hc hos
    · next hn => exact hn (huniq n o ho hoh hos)
  · simp only [State.endSession, setEngine_engines, PerHead.get_set_other _ _ hkh,
      modifyOccupation_engines]
    cases hwk : (s.engines.get k).session? with
    | none =>
      simp only [hwk] at hk ⊢
      intro n o ho hoh hos
      split at ho
      · obtain ⟨o', -, rfl⟩ := Option.map_eq_some_iff.1 ho
        exact hc hos
      · exact hk n o ho hoh hos
    | some wk =>
      simp only [hwk] at hk ⊢
      obtain ⟨⟨o, ho, hos, hoh, hst⟩, hu⟩ := hk
      have hne : wk.occupation ≠ w.occupation := by
        intro heq
        rw [heq, how] at ho
        cases ho
        exact hkh (hoh.symm.trans howh)
      refine ⟨⟨o, by rw [if_neg hne, ho], hos, hoh, hst⟩, fun n x hx hxh hxs => ?_⟩
      split at hx
      · obtain ⟨x', -, rfl⟩ := Option.map_eq_some_iff.1 hx
        exact absurd hxs hc
      · exact hu n x hx hxh hxs

theorem State.keepsRecords_endSession {s : State} {h : Head} {w : Session} {c : OccState}
    (hc : c ≠ .opened) (hw : (s.engines.get h).session? = some w) :
    s.keepsRecords (s.endSession h w c) where
  indexed := State.endSession_recordsIndexed h w c
  chains _ := State.endSession_chainsAgree h w c
  engines _ _ he hv := by
    refine (he hv).imp (fun ⟨hb, hs, hk⟩ => ⟨hb, hs, fun k => ?_⟩) fun ⟨_, _, hk⟩ => ?_
    · exact State.endSession_engineHolds hc hw (hk h) (hk k)
    · rw [hk h] at hw
      cases hw

theorem State.keepsRecords_failOccupation (s : State) (h : Head) (c : FailCause) :
    s.keepsRecords (s.failOccupation h c) := by
  unfold State.failOccupation
  split
  · exact .refl s
  · next w hw =>
    refine (State.keepsRecords_endSession (c := .failed c) nofun hw).trans
      (State.sameRecords.keeps (State.sameRecords.setEngine ?_ h .idle))
    exact (State.sameRecords_withdraw _ (.head h)).trans (State.sameRecords_setNotice _ _)

theorem State.keepsRecords_closeOccupation (s : State) (h : Head) :
    s.keepsRecords (s.closeOccupation h) := by
  unfold State.closeOccupation
  split
  · next w g e grade heng =>
    split
    · next o ho =>
      have hw : (s.engines.get h).session? = some w := by rw [heng]; rfl
      refine (State.keepsRecords_endSession (c := .closed) nofun hw).trans
        (State.sameRecords.keeps ?_)
      refine State.sameRecords.trans (State.sameRecords.setEngine ?_ h .idle)
        (State.sameRecords_revise _ _)
      have hclose := s.sameRecords_modifyOccupation_congr w.occupation
        (f := fun o => { o with state := .closed })
        (f' := Occupation.close g grade (s.staleAtClose o))
      refine hclose.trans (State.sameRecords.trans ?_
        ((State.sameRecords_handOver _ _).trans ((State.sameRecords_queueItem _ _).trans
          (State.sameRecords_setNotice _ _))))
      split
      · exact State.sameRecords_queueItem _ _
      · exact .refl _
    · exact .refl s
  · exact .refl s

/-! ## The engines' operations -/

theorem State.keepsRecords_closeIfReady (s : State) (h : Head) :
    s.keepsRecords (s.closeIfReady h) := by
  unfold State.closeIfReady
  split
  · split
    · exact s.keepsRecords_closeOccupation h
    · exact .refl s
  · exact .refl s

theorem State.keepsRecords_endIntegration (s : State) (h : Head) (d : Ending) :
    s.keepsRecords (s.endIntegration h d) := by
  unfold State.endIntegration
  split
  · next w g heng =>
    split
    · exact s.keepsRecords_failOccupation h _
    · exact (State.sameRecords.keeps (s.sameRecords_setEngine (by rw [heng]; rfl))).trans
        (State.keepsRecords_closeIfReady _ h)
  · exact .refl s

theorem State.keepsRecords_targetReached (s : State) (h : Head) :
    s.keepsRecords (s.targetReached h) := by
  unfold State.targetReached
  split
  · split
    · exact s.keepsRecords_endIntegration h _
    · exact .refl s
  · exact .refl s

theorem State.keepsRecords_stopIntegration (s : State) (h : Head) :
    s.keepsRecords (s.stopIntegration h) := by
  unfold State.stopIntegration
  split
  · split
    · exact s.keepsRecords_failOccupation h _
    · exact s.keepsRecords_endIntegration h _
  · exact .refl s

theorem State.keepsRecords_capIntegration (s : State) (h : Head) :
    s.keepsRecords (s.capIntegration h) := by
  unfold State.capIntegration
  split
  · split
    · exact s.keepsRecords_failOccupation h _
    · exact s.keepsRecords_endIntegration h _
  · exact .refl s

theorem State.keepsRecords_engineSample (s : State) (h : Head) (x : Sample) :
    s.keepsRecords (s.engineSample h x) := by
  unfold State.engineSample
  split
  · next heng =>
    split
    · exact s.keepsRecords_failOccupation h _
    · exact ((s.sameRecords_setEngine (by rw [heng]; rfl)).trans
        (State.sameRecords_settleReached _ h)).keeps
  · next heng =>
    split
    · exact s.keepsRecords_failOccupation h _
    · split
      · exact (s.sameRecords_integrateSample heng x).keeps.trans
          (State.keepsRecords_targetReached _ h)
      · exact (s.sameRecords_modifyOccupation _).keeps
  · exact .refl s
  · exact .refl s

theorem State.keepsRecords_checkFrame (s : State) (h : Head) (frame : List Byte) :
    s.keepsRecords (s.checkFrame h frame) := by
  unfold State.checkFrame
  split
  · exact ((s.sameRecords_setChannel h _).trans (State.sameRecords_engineGap _ h _)).keeps.trans
      (State.keepsRecords_engineSample _ h _)
  · exact (s.sameRecords_countCorrupt h _).keeps

theorem State.keepsRecords_receiveCharacter (s : State) (h : Head) (b : Byte) :
    s.keepsRecords (s.receiveCharacter h b) := by
  unfold State.receiveCharacter
  dsimp only
  split
  · exact (s.sameRecords_setChannel h _).keeps.trans (State.keepsRecords_checkFrame _ h _)
  · exact (s.sameRecords_setChannel h _).keeps

theorem State.sameRecords_framingError (s : State) (h : Head) :
    s.sameRecords (s.framingError h) := by
  unfold State.framingError
  dsimp only
  split
  · exact s.sameRecords_setChannel h _
  · exact s.sameRecords_countCorrupt h _

theorem State.keepsRecords_engineResult (s : State) (h : Head) (target step : Nat) (v : TideValue) :
    s.keepsRecords (s.engineResult h target step v) := by
  unfold State.engineResult
  split
  · split
    · exact ((s.sameRecords_modifyOccupation _).trans ((State.sameRecords_setEngine _
        (Engine.session?_withOwed _ _)).trans (State.sameRecords_placeOwed _ h))).keeps.trans
          (State.keepsRecords_closeIfReady _ h)
    · exact (s.sameRecords_placeOwed h).keeps
  · exact .refl s

theorem State.sameRecords_tide (s : State) (t : TideEngine) : s.sameRecords { s with tide := t } :=
  { State.sameRecords.refl s with }

theorem State.keepsRecords_completeEvaluation (s : State) :
    s.keepsRecords s.completeEvaluation := by
  unfold State.completeEvaluation
  split
  · exact .refl s
  · dsimp only
    split
    · exact ((s.sameRecords_tide _).trans (State.sameRecords_startEvaluation _)).keeps
    · refine .trans ?_ (State.sameRecords_startEvaluation _).keeps
      split
      · exact (s.sameRecords_tide _).keeps.trans (State.keepsRecords_engineResult _ _ _ _ _)
      · exact ((s.sameRecords_tide _).trans (State.sameRecords_redoResult _ _ _ _)).keeps

end Sys2Proof.Machine
end

section
/-! The commands that put, change and free records, and those of supply and reset, keep the three
invariants of the indexed records. -/

namespace Sys2Proof.Machine

/-! ## Stations put, changed and freed -/

theorem State.nameHeld_eq_false {s : State} {n : Name} {except : Option Nat} :
    s.nameHeld n except = false ↔ ∀ e ∈ s.nameIndex, e.2 = n → some e.1 = except := by
  simp [State.nameHeld]

theorem State.nameHeld_eq_true {s : State} {n : Name} {except : Option Nat} :
    s.nameHeld n except = true ↔ ∃ e ∈ s.nameIndex, e.2 = n ∧ some e.1 ≠ except := by
  simp [State.nameHeld]

/-- A station is put under a name that no other slot holds. -/
theorem State.recordsIndexed_putStation {s : State} (hi : s.recordsIndexed) (k : Nat) (st : Station)
    (hn : s.nameHeld st.name (some k) = false) :
    State.recordsIndexed { s with
      stations := Table.put s.stations k st, nameIndex := Table.put s.nameIndex k st.name } := by
  obtain ⟨hst, hoc, hl, hix, hnd⟩ := hi
  refine ⟨Table.wf_put hst _ _, hoc, hl, ?_, Table.nodup_map_put hst Station.name hnd ?_⟩
  · show Table.put s.nameIndex k st.name = Table.project Station.name (Table.put s.stations k st)
    rw [Table.project_put, hix]
    rfl
  · intro k' st' hg hne hname
    rw [State.nameHeld_eq_false, hix] at hn
    have hmem : (k', st'.name) ∈ s.stations.map fun e => (e.1, e.2.name) :=
      List.mem_map.2 ⟨_, Table.mem_of_get hg, rfl⟩
    exact hne (Option.some.inj (hn _ hmem hname))

/-- A station declared in a FREE slot: its chain is empty. -/
theorem State.keepsRecords_declare (s : State) {k : Nat} {st : Station} {names : Table Name}
    (hk : k < s.partition.slots) (hfree : Table.get s.stations k = none) (hc : st.chain = [])
    (hn : s.nameHeld st.name none = false) (hnames : names = Table.put s.nameIndex k st.name) :
    s.keepsRecords { s with stations := Table.put s.stations k st, nameIndex := names } where
  indexed hi := by
    subst hnames
    refine State.recordsIndexed_putStation hi k st (State.nameHeld_eq_false.2 fun e he hen => ?_)
    cases State.nameHeld_eq_false.1 hn e he hen
  chains _ := by
    rintro ⟨hst, hoc⟩
    refine ⟨fun k' st' hg => ?_, fun n o hg => ?_⟩
    · rw [Table.get_put] at hg
      split at hg
      · next hkk =>
        cases hg
        simp [hc, hkk, hk]
      · exact hst k' st' hg
    · obtain ⟨hn, st', hg', hmem⟩ := hoc n o hg
      refine ⟨hn, st', ?_, hmem⟩
      rw [Table.get_put, if_neg fun he => ?_, hg']
      rw [he, hfree] at hg'
      cases hg'
  engines _ _ he := he

/-- A station record rewritten with its chain kept. -/
theorem State.keepsRecords_rewrite (s : State) {k : Nat} {st st' : Station} {names : Table Name}
    (hg : Table.get s.stations k = some st) (hc : st'.chain = st.chain)
    (hn : s.nameHeld st'.name (some k) = false) (hnames : names = Table.put s.nameIndex k st'.name) :
    s.keepsRecords { s with stations := Table.put s.stations k st', nameIndex := names } where
  indexed hi := by
    subst hnames
    exact State.recordsIndexed_putStation hi k st' hn
  chains _ := by
    rintro ⟨hst, hoc⟩
    refine ⟨fun k' x hx => ?_, fun n o ho => ?_⟩
    · rw [Table.get_put] at hx
      split at hx
      · next hkk =>
        cases hx
        rw [hc]
        exact hst k' st (hkk ▸ hg)
      · exact hst k' x hx
    · obtain ⟨hn, x, hx, hmem⟩ := hoc n o ho
      refine ⟨hn, ?_⟩
      rw [Table.get_put]
      split
      · next hkk =>
        rw [hkk, hg] at hx
        cases hx
        exact ⟨st', rfl, hc ▸ hmem⟩
      · exact ⟨x, hx, hmem⟩
  engines _ _ he := he

/-- No occupation of a chain is OPEN (R23). -/
theorem State.chainOpen_eq_false {s : State} {chain : List Nat} :
    s.chainOpen chain = false
      ↔ ∀ n ∈ chain, ∀ o, Table.get s.occupations n = some o → o.state ≠ .opened := by
  simp only [State.chainOpen, List.any_eq_false]
  refine forall₂_congr fun n _ => ?_
  cases Table.get s.occupations n <;> simp

/-- Engines agree with fewer records when no OPEN occupation is among those taken out. -/
theorem State.engineHolds_of_fewer {s t : State} {h : Head} (hh : s.engineHolds h)
    (he : t.engines = s.engines)
    (hle : ∀ n o, Table.get t.occupations n = some o → Table.get s.occupations n = some o)
    (hopen : ∀ n o, Table.get s.occupations n = some o → o.state = .opened →
      Table.get t.occupations n = some o) : t.engineHolds h := by
  unfold State.engineHolds at hh ⊢
  rw [he]
  cases hw : (s.engines.get h).session? with
  | none =>
    simp only [hw] at hh ⊢
    exact fun n o ho => hh n o (hle n o ho)
  | some w =>
    simp only [hw] at hh ⊢
    obtain ⟨⟨o, ho, hs, hr⟩, hu⟩ := hh
    exact ⟨⟨o, hopen _ o ho hs, hs, hr⟩, fun n x hx => hu n x (hle n x hx)⟩

theorem State.enginesAgree_of_engineHolds {s t : State} (ha : s.enginesAgree) (hv : t.vdd = s.vdd)
    (hb : t.backupValid = s.backupValid) (hs : t.startup = s.startup) (hr : t.resetLow = s.resetLow)
    (he : t.engines = s.engines) (hh : ∀ h, s.engineHolds h → t.engineHolds h) : t.enginesAgree := by
  intro hvt
  rw [hb, hs, hr, he]
  exact (ha (hv ▸ hvt)).imp (fun ⟨h1, h2, h3⟩ => ⟨h1, h2, fun h => hh h (h3 h)⟩) id

/-- A station is freed with its name and the occupations of its chain, none of them OPEN. -/
theorem State.keepsRecords_freeStation (s : State) {k : Nat} {st : Station}
    (hg : Table.get s.stations k = some st) (hopen : s.chainOpen st.chain = false) :
    s.keepsRecords { s with
      occupations := s.occupations.filter fun e => !decide (e.1 ∈ st.chain)
      nameIndex := Table.del s.nameIndex k, stations := Table.del s.stations k } := by
  have hget (n : Nat) := Table.get_filterKeys s.occupations (fun x => !decide (x ∈ st.chain)) n
  refine ⟨?_, ?_, ?_⟩
  · rintro ⟨hst, hoc, hl, hix, hnd⟩
    refine ⟨Table.wf_del hst _, Table.wf_filter hoc _, hl, ?_, Table.nodup_map_filter _ _ _ hnd⟩
    show Table.del s.nameIndex k = Table.project Station.name (Table.del s.stations k)
    rw [Table.project_del, hix]
    rfl
  · rintro - ⟨hst, hoc⟩
    refine ⟨fun k' x hx => ?_, fun n o ho => ?_⟩
    · rw [Table.get_del] at hx
      split at hx
      · cases hx
      · next hkk =>
        obtain ⟨hk, hnd, hlen, hrec⟩ := hst k' x hx
        refine ⟨hk, hnd, hlen, fun n hn => ?_⟩
        obtain ⟨o, ho, hs⟩ := hrec n hn
        refine ⟨o, ?_, hs⟩
        rw [hget, if_pos, ho]
        simp only [Bool.not_eq_true', decide_eq_false_iff_not]
        intro hmem
        obtain ⟨o', ho', hs'⟩ := (hst k st hg).2.2.2 n hmem
        rw [ho] at ho'
        cases ho'
        exact hkk (hs.symm.trans hs')
    · rw [hget] at ho
      split at ho
      · next hmem =>
        obtain ⟨hn, x, hx, hxn⟩ := hoc n o ho
        refine ⟨hn, x, ?_, hxn⟩
        rw [Table.get_del, if_neg fun he => ?_, hx]
        rw [he, hg] at hx
        cases hx
        simp [hxn] at hmem
      · cases ho
  · intro _ _ ha
    refine State.enginesAgree_of_engineHolds ha rfl rfl rfl rfl rfl fun h hh => ?_
    refine State.engineHolds_of_fewer hh rfl (fun n o ho => ?_) fun n o ho hs => ?_
    · rw [hget] at ho
      split at ho
      · exact ho
      · cases ho
    · rw [hget, if_pos, ho]
      simp only [Bool.not_eq_true', decide_eq_false_iff_not]
      exact fun hmem => State.chainOpen_eq_false.1 hopen n hmem o ho hs

/-! ## Occupations put and freed -/

/-- A record that is not OPEN is taken out of its chain and freed (R68). -/
theorem State.keepsRecords_freeOccupation (s : State) {n : Nat} {o : Occupation}
    (hg : Table.get s.occupations n = some o) (hs : o.state ≠ .opened) :
    s.keepsRecords (s.freeOccupation n o.station) := by
  have hocc (m : Nat) : Table.get (s.freeOccupation n o.station).occupations m
      = if m = n then none else Table.get s.occupations m := Table.get_del _ _ _
  have hsta (k : Nat) : Table.get (s.freeOccupation n o.station).stations k
      = if k = o.station then (Table.get s.stations k).map
          fun st => { st with chain := st.chain.filter (· != n) }
        else Table.get s.stations k := by
    rw [State.freeOccupation, State.modifyStation_stations, Table.get_modify]
  refine ⟨?_, ?_, ?_⟩
  · exact fun hi => State.recordsIndexed_of_names hi
      (Table.project_modify
        (f := fun st : Station => { st with chain := st.chain.filter (· != n) }) (fun _ => rfl) _ _)
      rfl (fun h => Table.wf_del h _) id
  · rintro - ⟨hst, hoc⟩
    refine ⟨fun k x hx => ?_, fun m x hx => ?_⟩
    · rw [hsta] at hx
      split at hx
      · obtain ⟨st, hst', rfl⟩ := Option.map_eq_some_iff.1 hx
        obtain ⟨hk, hnd, hlen, hrec⟩ := hst k st hst'
        refine ⟨hk, hnd.filter _, (List.length_filter_le _ _).trans hlen, fun m hm => ?_⟩
        obtain ⟨hm, hmn⟩ := List.mem_filter.1 hm
        rw [hocc, if_neg (by simpa using hmn)]
        exact hrec m hm
      · next hk =>
        obtain ⟨hks, hnd, hlen, hrec⟩ := hst k x hx
        refine ⟨hks, hnd, hlen, fun m hm => ?_⟩
        obtain ⟨y, hy, hys⟩ := hrec m hm
        refine ⟨y, ?_, hys⟩
        rw [hocc, if_neg fun he => ?_, hy]
        rw [he, hg] at hy
        cases hy
        exact hk hys.symm
    · rw [hocc] at hx
      split at hx
      · cases hx
      · next hm =>
        obtain ⟨hmr, st, hst', hmem⟩ := hoc m x hx
        refine ⟨hmr, ?_⟩
        rw [hsta, hst']
        split
        · exact ⟨_, rfl, List.mem_filter.2 ⟨hmem, by simpa using hm⟩⟩
        · exact ⟨st, rfl, hmem⟩
  · intro _ _ ha
    refine State.enginesAgree_of_engineHolds ha rfl rfl rfl rfl rfl fun h hh => ?_
    refine State.engineHolds_of_fewer hh rfl (fun m x hx => ?_) fun m x hx hxs => ?_
    · rw [hocc] at hx
      split at hx
      · cases hx
      · exact hx
    · rw [hocc, if_neg fun he => ?_, hx]
      rw [he, hg] at hx
      cases hx
      exact hs hxs

/-- A record is put at a number, its number at the end of its station's chain, and the engine of its
head holds it (R50). -/
def State.enroll (s : State) (n : Nat) (o : Occupation) (e : Engine) : State :=
  ({ s with occupations := Table.put s.occupations n o }.modifyStation o.station fun st =>
    { st with chain := st.chain ++ [n] }).setEngine o.head e

theorem State.keepsRecords_enroll {s : State} {n : Nat} {o : Occupation} {e : Engine} {w : Session}
    {st : Station} (hrun : s.running = true) (hup : s.startup = false)
    (hn : n < s.partition.records) (hfree : Table.get s.occupations n = none)
    (hst : Table.get s.stations o.station = some st) (hlen : st.chain.length < 16)
    (hidle : s.engines.get o.head = .idle) (ho : o.state = .opened) (he : e.session? = some w)
    (hw : w.occupation = n) (hws : w.station = o.station) : s.keepsRecords (s.enroll n o e) := by
  have hocc (m : Nat) : Table.get (s.enroll n o e).occupations m
      = if m = n then some o else Table.get s.occupations m := Table.get_put _ _ _ _
  have hsta (k : Nat) : Table.get (s.enroll n o e).stations k
      = if k = o.station then (Table.get s.stations k).map fun st =>
          { st with chain := st.chain ++ [n] }
        else Table.get s.stations k := by
    rw [State.enroll, State.setEngine_stations, State.modifyStation_stations, Table.get_modify]
  have hput {m : Nat} {x : Occupation} (hx : Table.get s.occupations m = some x) :
      Table.get (s.enroll n o e).occupations m = some x := by
    rw [hocc, if_neg fun he => ?_, hx]
    rw [he, hfree] at hx
    cases hx
  refine ⟨?_, ?_, ?_⟩
  · exact fun hi => State.recordsIndexed_of_names hi
      (Table.project_modify
        (f := fun st : Station => { st with chain := st.chain ++ [n] }) (fun _ => rfl) _ _)
      rfl (fun h => Table.wf_put h _ _) id
  · rintro - ⟨hstn, hoc⟩
    refine ⟨fun k x hx => ?_, fun m x hx => ?_⟩
    · rw [hsta] at hx
      split at hx
      · next hk =>
        rw [hk, hst] at hx
        cases hx
        obtain ⟨hks, hnd, -, hrec⟩ := hstn _ st hst
        have hnew : n ∉ st.chain := fun hmem => by
          obtain ⟨y, hy, -⟩ := hrec n hmem
          rw [hfree] at hy
          cases hy
        refine ⟨hk ▸ hks, hnd.append (List.nodup_singleton n) (by simpa using hnew), ?_, ?_⟩
        · simp only [List.length_append, List.length_singleton]
          omega
        · intro m hm
          rcases List.mem_append.1 hm with hm | hm
          · obtain ⟨y, hy, hys⟩ := hrec m hm
            exact ⟨y, hput hy, hys.trans hk.symm⟩
          · rw [hocc, if_pos (List.mem_singleton.1 hm)]
            exact ⟨o, rfl, hk.symm⟩
      · obtain ⟨hks, hnd, hl16, hrec⟩ := hstn k x hx
        refine ⟨hks, hnd, hl16, fun m hm => ?_⟩
        obtain ⟨y, hy, hys⟩ := hrec m hm
        exact ⟨y, hput hy, hys⟩
    · rw [hocc] at hx
      split at hx
      · next hm =>
        cases hx
        rw [hsta, if_pos rfl, hst]
        exact ⟨hm ▸ hn, _, rfl, by simp [hm]⟩
      · obtain ⟨hmr, y, hy, hmem⟩ := hoc m x hx
        refine ⟨hmr, ?_⟩
        rw [hsta, hy]
        split
        · exact ⟨_, rfl, List.mem_append_left _ hmem⟩
        · exact ⟨y, rfl, hmem⟩
  · intro _ _ ha _
    simp only [State.running, Bool.and_eq_true, Bool.not_eq_true'] at hrun
    obtain ⟨hb, -, hh⟩ | ⟨-, hor, -⟩ := ha hrun.1
    · refine .inl ⟨hb, hup, fun h => ?_⟩
      have hidle' := hh o.head
      simp only [State.engineHolds, hidle, Engine.session?] at hidle'
      have hk := hh h
      unfold State.engineHolds at hk ⊢
      rw [show (s.enroll n o e).engines = s.engines.set o.head e from rfl, PerHead.get_set]
      by_cases hho : h = o.head
      · subst hho
        simp only [if_true, he]
        rw [hw, hocc, if_pos rfl]
        refine ⟨⟨o, rfl, ho, rfl, hws.symm⟩, fun m x hx hxh hxs => ?_⟩
        rw [hocc] at hx
        split at hx
        · assumption
        · exact absurd hxs (hidle' m x hx hxh)
      · rw [if_neg hho]
        have hback {m : Nat} {x : Occupation} (hx : Table.get (s.enroll n o e).occupations m = some x)
            (hxh : x.head = h) : Table.get s.occupations m = some x := by
          rw [hocc] at hx
          split at hx
          · cases hx
            exact absurd hxh.symm hho
          · exact hx
        cases hwk : (s.engines.get h).session? with
        | none =>
          simp only [hwk] at hk ⊢
          exact fun m x hx hxh => hk m x (hback hx hxh) hxh
        | some wk =>
          simp only [hwk] at hk ⊢
          obtain ⟨⟨y, hy, hyr⟩, hu⟩ := hk
          exact ⟨⟨y, hput hy, hyr⟩, fun m x hx hxh => hu m x (hback hx hxh) hxh⟩
    · simp [hup, hrun.2] at hor

/-! ## Stores emptied -/

theorem State.recordsIndexed_of_empty {s : State} (hs : s.stations = []) (hn : s.nameIndex = [])
    (ho : s.occupations = []) (hl : s.loops = []) : s.recordsIndexed := by
  rw [State.recordsIndexed, hs, hn, ho, hl]
  exact ⟨Table.wf_nil, Table.wf_nil, Table.wf_nil, rfl, List.nodup_nil⟩

theorem State.chainsAgree_of_empty {s : State} (hs : s.stations = []) (ho : s.occupations = []) :
    s.chainsAgree := by
  simp [State.chainsAgree, hs, ho]

theorem State.engineHolds_of_idle {s : State} {h : Head} (he : s.engines.get h = .idle)
    (ho : ∀ n o, Table.get s.occupations n = some o → o.state ≠ .opened) : s.engineHolds h := by
  simp only [State.engineHolds, he, Engine.session?]
  exact fun n o hg _ => ho n o hg

/-- With no occupation OPEN no engine holds a session. -/
theorem State.engineHolds_of_not_anyOpen {s : State} (ha : s.anyOpen = false) {h : Head}
    (hh : s.engineHolds h) : s.engines.get h = .idle := by
  rw [← Engine.session?_eq_none]
  unfold State.engineHolds at hh
  cases hw : (s.engines.get h).session? with
  | none => rfl
  | some w =>
    simp only [hw] at hh
    obtain ⟨⟨o, ho, hs, -⟩, -⟩ := hh
    simp only [State.anyOpen, List.any_eq_false] at ha
    exact absurd (by simpa using hs) (ha _ (Table.mem_of_get ho))

/-- The stores are emptied with no occupation OPEN (R4). -/
theorem State.keepsRecords_emptied (s : State) (part : Partition) (ha : s.anyOpen = false) :
    s.keepsRecords { s with
      partition := part, stations := [], nameIndex := [], occupations := [], loops := [] } where
  indexed _ := State.recordsIndexed_of_empty rfl rfl rfl rfl
  chains _ _ := State.chainsAgree_of_empty rfl rfl
  engines _ _ he := State.enginesAgree_of_engineHolds he rfl rfl rfl rfl rfl fun _ hh =>
    State.engineHolds_of_idle (State.engineHolds_of_not_anyOpen ha hh) fun _ _ hg => nomatch hg

/-! ## Supply, reset and start-up -/

theorem State.keepsRecords_rebuildBackup {s : State} (hv : s.vdd = true) (hu : s.startup = true) :
    s.keepsRecords s.rebuildBackup where
  indexed _ := State.recordsIndexed_of_empty rfl rfl rfl rfl
  chains _ _ := State.chainsAgree_of_empty rfl rfl
  engines _ _ ha _ := by
    have hidle : ∀ h, s.engines.get h = .idle := by
      obtain ⟨-, hs, -⟩ | ⟨-, -, hi⟩ := ha hv
      · simp [hs] at hu
      · exact hi
    have heng : s.rebuildBackup.engines = s.engines := by
      unfold State.rebuildBackup State.loadDefaults
      split <;> rfl
    exact .inl ⟨rfl, rfl, fun h => State.engineHolds_of_idle (by rw [heng, hidle])
      fun _ _ hg => nomatch hg⟩

/-- The record after a restart: INTERRUPTED where it was OPEN (R174). -/
def Occupation.interrupted (o : Occupation) : Occupation :=
  if o.state = .opened then { o with state := .failed .interrupted } else o

theorem Occupation.station_interrupted (o : Occupation) : o.interrupted.station = o.station := by
  unfold Occupation.interrupted
  split <;> rfl

theorem Occupation.state_interrupted (o : Occupation) : o.interrupted.state ≠ .opened := by
  unfold Occupation.interrupted
  split
  · nofun
  · assumption

theorem State.get_interrupt (s : State) (n : Nat) :
    Table.get s.interrupt.occupations n
      = (Table.get s.occupations n).map Occupation.interrupted :=
  Table.get_modifyAll _ _ Occupation.interrupted

/-- The main domain is reset and every OPEN occupation becomes INTERRUPTED (R173, R174). -/
theorem State.keepsRecords_interrupt {s : State} (hb : s.backupValid = true) :
    s.keepsRecords { s with vdd := true, resetLow := false }.resetMain.interrupt := by
  have hocc (n : Nat) :
      Table.get { s with vdd := true, resetLow := false }.resetMain.interrupt.occupations n
        = (Table.get s.occupations n).map Occupation.interrupted := State.get_interrupt _ n
  refine ⟨?_, ?_, fun _ _ _ _ => .inl ⟨hb, rfl, fun h => ?_⟩⟩
  · rintro ⟨hst, hoc, hl, hix, hnd⟩
    exact ⟨hst, Table.wf_modifyAll (f := Occupation.interrupted) hoc, hl, hix, hnd⟩
  · rintro - ⟨hst, hoc⟩
    refine ⟨fun k st hg => ?_, fun n o ho => ?_⟩
    · obtain ⟨hk, hnd, hlen, hrec⟩ := hst k st hg
      refine ⟨hk, hnd, hlen, fun n hn => ?_⟩
      obtain ⟨o, ho, hs⟩ := hrec n hn
      exact ⟨o.interrupted, by rw [hocc, ho]; rfl,
        o.station_interrupted.trans hs⟩
    · rw [hocc] at ho
      obtain ⟨o', ho', rfl⟩ := Option.map_eq_some_iff.1 ho
      rw [Occupation.station_interrupted]
      exact hoc n o' ho'
  · refine State.engineHolds_of_idle (get_perHead _ h) fun n o ho => ?_
    rw [hocc] at ho
    obtain ⟨o', -, rfl⟩ := Option.map_eq_some_iff.1 ho
    exact o'.state_interrupted

theorem State.sameRecords_restart (s : State) : s.interrupt.sameRecords s.restart :=
  (State.sameRecords_queueAll s.interrupt.owedItems _).trans
    ((State.sameRecords_notices _ _).trans (State.sameRecords_revise false _))

theorem State.keepsRecords_start (s : State) :
    s.keepsRecords { s with vdd := true, resetLow := false }.start := by
  unfold State.start
  dsimp only
  split
  · next hb => exact (State.keepsRecords_interrupt hb).trans (State.sameRecords_restart _).keeps
  · next hb =>
    exact ⟨id, fun _ => id, fun _ _ _ _ => .inr ⟨by simpa using hb, .inl rfl, get_perHead _⟩⟩

/-! ## Requests -/

/-- What comes of a request frame keeps the invariants where what its owner does does. -/
theorem State.keepsRecords_receiveFrame {s : State} {act : State → State}
    (hact : s.serves → s.taken.keepsRecords (act s.taken)) (tag : Byte) (p : List Byte) :
    s.keepsRecords (s.receiveFrame tag p act) := by
  have htaken : s.sameRecords s.taken := { State.sameRecords.refl s with }
  unfold State.receiveFrame
  split
  · exact .refl s
  · next hrun =>
    split
    · exact State.sameRecords.keeps { State.sameRecords.refl s with }
    · split
      · exact htaken.keeps
      · next hlink =>
        split
        · exact (htaken.trans (State.sameRecords_respond _ _ _)).keeps
        · next hup =>
          refine htaken.keeps.trans (hact ⟨by simpa using hrun, by simpa using hup, ?_⟩)
          cases hl : s.link with
          | working r => exact absurd hl (hlink r)
          | idle => rfl
          | answered f => rfl

/-- Serving keeps the invariants of the indexed records. -/
def Server.KeepsRecords (serve : Server) : Prop :=
  ∀ (p : List Byte) (s : State), s.serves → s.keepsRecords (serve p s).1

theorem State.keepsRecords_request {serve : Server} (hs : Server.KeepsRecords serve) (s : State)
    (tag : Byte) (p : List Byte) : s.keepsRecords (s.request tag p serve) :=
  State.keepsRecords_receiveFrame (s := s)
    (act := fun s' => (serve p s').1.respond tag (serve p s').2)
    (fun h => (hs p s.taken h).trans (State.sameRecords_respond _ _ _).keeps) tag p

theorem Server.keepsRecords_fixedForm {n : Nat} {serve : Server} (hs : Server.KeepsRecords serve) :
    Server.KeepsRecords (fixedForm n serve) := by
  intro p s h
  unfold fixedForm
  split
  · exact hs p s h
  · exact .refl s

theorem Server.keepsRecords_readForm (n : Nat) (answer : List Byte → State → Answer) :
    Server.KeepsRecords (readForm n answer) :=
  Server.keepsRecords_fixedForm fun _ s _ => State.keepsRecords.refl s

end Sys2Proof.Machine
end

section
/-! Every command keeps the three invariants of the indexed records. -/

namespace Sys2Proof.Machine

/-! ## What the checks of requests find -/

theorem State.checkSlot_eq_ok {s : State} {slot : Nat} {st : Station} :
    s.checkSlot slot = .ok st ↔ slot < s.partition.slots ∧ Table.get s.stations slot = some st := by
  unfold State.checkSlot
  split
  · next h => simp [Nat.not_lt.2 h]
  · next h => cases Table.get s.stations slot <;> simp [Nat.not_le.1 h]

theorem State.checkOccupation_eq_ok {s : State} {n : Nat} {o : Occupation} :
    s.checkOccupation n = .ok o ↔ n < s.partition.records ∧ Table.get s.occupations n = some o := by
  unfold State.checkOccupation
  split
  · next h => simp [Nat.not_lt.2 h]
  · next h => cases Table.get s.occupations n <;> simp [Nat.not_le.1 h]

/-- What the checks of R49 have found when all of them pass. -/
theorem State.checkOpening_eq_ok {s : State} {o : OpenOperands} {q : Opening}
    (h : s.checkOpening o = .ok q) :
    Head.ofCode o.head = some q.head ∧ q.slot = o.slot ∧ q.slot < s.partition.slots
      ∧ s.engines.get q.head = .idle ∧ s.now = some q.time
      ∧ (s.channels.get q.head).upRate = some q.rate
      ∧ Table.firstFree s.occupations s.partition.records = some q.number
      ∧ q.requested = o.duration
      ∧ ∃ st, Table.get s.stations q.slot = some st ∧ st.chain.length < Config.chainCapacity := by
  unfold State.checkOpening at h
  split at h
  · cases h
  next hd hhd =>
  split at h
  · cases h
  next hslot =>
  split at h
  · cases h
  next hidle =>
  split at h
  · cases h
  next st hst =>
  split at h
  · cases h
  next t ht =>
  split at h
  · cases h
  next r hr =>
  split at h
  · cases h
  next n hn =>
  split at h
  · cases h
  next hlen =>
  cases h
  exact ⟨hhd, rfl, Nat.not_le.1 hslot, Decidable.not_not.1 hidle, ht, hr, hn, rfl, st, hst,
    Nat.not_le.1 hlen⟩

/-! ## Opening an occupation -/

theorem State.applyStaged_frame (s : State) (h : Head) :
    ∃ a g c n, s.applyStaged h = { s with active := a, staged := g, calGen := c, notices := n } := by
  unfold State.applyStaged
  split
  · exact ⟨_, _, _, _, rfl⟩
  · exact ⟨s.active, s.staged, s.calGen, s.notices, rfl⟩

theorem State.keepsRecords_openOccupation {s : State} {o : OpenOperands} {q : Opening}
    (hs : s.serves) (hq : s.checkOpening o = .ok q) : s.keepsRecords (s.openOccupation q) := by
  obtain ⟨-, -, -, hidle, -, -, hfree, -, st, hst, hlen⟩ := State.checkOpening_eq_ok hq
  obtain ⟨hn, hnone, -⟩ := Table.firstFree_eq_some.1 hfree
  obtain ⟨a, g, c, n, ha⟩ := s.applyStaged_frame q.head
  have happlied : s.sameRecords (s.applyStaged q.head) := by
    rw [ha]
    exact { State.sameRecords.refl s with }
  have henroll (e : Engine) (he : e.session? = some (.fresh q)) :
      (s.applyStaged q.head).keepsRecords ((s.applyStaged q.head).enroll q.number
        (Occupation.fresh q ((s.applyStaged q.head).calGen.get q.head)) e) := by
    rw [ha]
    exact State.keepsRecords_enroll hs.1 hs.2.1 hn hnone hst hlen hidle rfl he rfl rfl
  have hsettling := henroll (.settling (.fresh q) 0
    (q.time + 1000 * ((s.applyStaged q.head).activeSet q.head).settlingTimeout)) rfl
  refine happlied.keeps.trans (hsettling.trans (State.sameRecords.keeps ?_))
  refine State.sameRecords.trans ?_ (State.sameRecords_loseHead _ q.head)
  have hpulse (u : State) : u.sameRecords { u with pulse := { u.pulse with pendingSet := none } } :=
    { State.sameRecords.refl u with }
  exact (hpulse _).setEngine q.head _

/-! ## Editing, retiring, clearing, deleting -/

theorem State.keepsRecords_applyEdit {s : State} {slot : Nat} {st : Station} {e : StationEdit}
    (hi : s.recordsIndexed) (hg : Table.get s.stations slot = some st)
    (hn : s.editNameTaken slot e = false) : s.keepsRecords (s.applyEdit slot st e) := by
  have hheld : s.nameHeld (st.edited e).name (some slot) = false := by
    cases he : e.name with
    | none =>
      rw [State.nameHeld_eq_false, hi.2.2.2.1]
      intro x hx hname
      obtain ⟨y, hy, rfl⟩ := List.mem_map.1 hx
      rw [Station.edited, he] at hname
      exact congrArg some ((Table.nodup_map_iff hi.1 Station.name).1 hi.2.2.2.2 _ _ _ _
        (Table.get_of_mem hi.1 hy) hg hname)
    | some n => simpa [State.editNameTaken, Station.edited, he] using hn
  have hput := s.keepsRecords_rewrite (st' := st.edited e) hg rfl hheld rfl
  unfold State.applyEdit
  dsimp only
  split
  · exact hput.trans ((State.sameRecords_markTideStale _ _).trans
      (State.sameRecords_revise _ _)).keeps
  · exact hput

theorem State.sameRecords.chainOpen {s t : State} (h : s.sameRecords t) {chain : List Nat}
    (hs : s.chainOpen chain = false) : t.chainOpen chain = false := by
  rw [State.chainOpen_eq_false] at hs ⊢
  intro n hn o ho hopen
  obtain ⟨o', ho', hp⟩ := h.get_occupation ho
  exact hs n hn o' ho' ((Occupation.isOpen_of_place hp).2 hopen)

theorem State.keepsRecords_retire {s : State} {slot : Nat} {st : Station}
    (hg : Table.get s.stations slot = some st) (hopen : s.chainOpen st.chain = false) :
    s.keepsRecords (s.retire slot st.chain) := by
  unfold State.retire
  dsimp only
  have h3 := (s.sameRecords_abandonAll (s.loopsBasedAt slot)).trans
    ((State.sameRecords_leaveLoops st.chain _).trans
      (State.sameRecords_removeItems _ (targetsStation slot st.chain)))
  revert h3
  generalize State.removeItems _ (targetsStation slot st.chain) = s3
  intro h3
  have h4 : s.sameRecords (if (s3.redoing.map fun o => decide (o ∈ st.chain)).getD false
      then s3.dropInFlight else s3) := by
    split
    · exact h3.trans s3.sameRecords_dropInFlight
    · exact h3
  revert h4
  generalize (if (s3.redoing.map fun o => decide (o ∈ st.chain)).getD false
    then s3.dropInFlight else s3) = s4
  intro h4
  obtain ⟨st', hg', hb⟩ := h4.symm_station hg
  have hfree := s4.keepsRecords_freeStation hg'
    (by rw [Station.chain_of_bare hb]; exact h4.chainOpen hopen)
  rw [Station.chain_of_bare hb] at hfree
  exact h4.keeps.trans (hfree.trans (State.sameRecords_revise _ _).keeps)

theorem State.keepsRecords_clear {s : State} (part : Partition) (ha : s.anyOpen = false) :
    s.keepsRecords (s.clear part) := by
  refine (s.keepsRecords_emptied part ha).trans (State.sameRecords.keeps ?_)
  obtain ⟨f, t, h⟩ := s.dropInFlight_frame
  unfold State.clear
  rw [h]
  dsimp only
  split
  · exact { State.sameRecords.refl _ with }
  · exact { State.sameRecords.refl _ with }

theorem State.keepsRecords_delete {s : State} {n : Nat} {o : Occupation}
    (hg : Table.get s.occupations n = some o) (hs : o.state ≠ .opened) :
    s.keepsRecords (s.delete n o) := by
  have hfree {t : State} (h : s.sameRecords t) : s.keepsRecords (t.freeOccupation n o.station) := by
    obtain ⟨o', ho', hp⟩ := h.symm_occupation hg
    have := t.keepsRecords_freeOccupation ho' fun hop => hs ((Occupation.isOpen_of_place hp).1 hop)
    rw [show o'.station = o.station from congrArg Place.station hp] at this
    exact h.keeps.trans this
  unfold State.delete
  split
  · exact (hfree ((s.sameRecords_resolveRoles n o).trans (State.sameRecords_dropRedo _ n))).trans
      ((State.sameRecords_queueItem _ _).trans (State.sameRecords_revise _ _)).keeps
  · exact (hfree (s.sameRecords_dropRedo n)).trans (State.sameRecords_revise _ _).keeps

/-! ## Coefficients written -/

theorem State.sameRecords_writeEntry (s : State) (i : Nat) (c : Constituent) :
    s.sameRecords (s.writeEntry i c) := by
  have hw : s.sameRecords
      { s with constituents := s.constituents.set i c, tableGen := s.tableGen + 1 } :=
    { State.sameRecords.refl s with }
  exact hw.trans ((State.sameRecords_markTideStale _ s.allClosed).trans
    (State.sameRecords_revise s.revisionBusy _))

theorem State.sameRecords_writeConstants (s : State) (o : ConstantsOperands) :
    s.sameRecords (s.writeConstants o) := by
  have hw : s.sameRecords { s with constants := s.constants.carry o } :=
    { State.sameRecords.refl s with }
  exact hw.trans ((State.sameRecords_queueAll (s.constantItems o) _).trans
    (State.sameRecords_revise s.revisionBusy _))

/-! ## The owners of the requests -/

namespace Server

theorem keepsRecords_declareStation : KeepsRecords serveDeclareStation :=
  keepsRecords_fixedForm fun p s _ => by
    unfold declareStation
    split
    · split
      · exact .refl s
      · next hn =>
        split
        · exact .refl s
        · next hk =>
          obtain ⟨hlt, hfree, -⟩ := Table.firstFree_eq_some.1 hk
          exact s.keepsRecords_declare hlt hfree rfl (by simpa [Station.fresh] using hn) rfl
    · exact .refl s

theorem keepsRecords_editStation : KeepsRecords serveEditStation :=
  keepsRecords_fixedForm fun p s _ => by
    unfold editStation
    split
    · exact .refl s
    · next st hst =>
      obtain ⟨-, hg⟩ := State.checkSlot_eq_ok.1 hst
      split
      · exact .refl s
      · split
        · exact .refl s
        · next hn =>
          split
          · exact .refl s
          · exact State.keepsRecords_of_indexed fun hi =>
              State.keepsRecords_applyEdit hi hg (by simpa using hn)

theorem keepsRecords_retireStation : KeepsRecords serveRetireStation :=
  keepsRecords_fixedForm fun p s _ => by
    unfold retireStation
    split
    · exact .refl s
    · next st hst =>
      obtain ⟨-, hg⟩ := State.checkSlot_eq_ok.1 hst
      split
      · exact .refl s
      · next hopen => exact State.keepsRecords_retire hg (by simpa using hopen)

theorem keepsRecords_clearSurvey : KeepsRecords serveClearSurvey :=
  keepsRecords_fixedForm fun p s _ => by
    unfold clearSurvey
    split
    · exact .refl s
    · split
      · exact .refl s
      · next hopen => exact State.keepsRecords_clear _ (by simpa using hopen)

theorem keepsRecords_openOccupation : KeepsRecords serveOpenOccupation :=
  keepsRecords_fixedForm fun p s hs => by
    unfold openOccupation
    split
    · exact .refl s
    · next hq => exact State.keepsRecords_openOccupation hs hq

theorem keepsRecords_onHead {serve : Head → State → State × Answer}
    (hs : ∀ (h : Head) (s : State), s.keepsRecords (serve h s).1) : KeepsRecords (onHead serve) :=
  keepsRecords_fixedForm fun p s _ => by
    split
    · exact .refl s
    · exact hs _ s

theorem keepsRecords_forceIntegrate : KeepsRecords serveForceIntegrate :=
  keepsRecords_onHead fun h s => by
    unfold forceIntegrate
    split
    · exact (s.sameRecords_enterIntegrating h _).keeps
    · exact .refl s

theorem keepsRecords_stopOccupation : KeepsRecords serveStopOccupation :=
  keepsRecords_onHead fun h s => by
    unfold stopOccupation
    split
    · exact s.keepsRecords_stopIntegration h
    · exact .refl s

theorem keepsRecords_cancelOccupation : KeepsRecords serveCancelOccupation :=
  keepsRecords_onHead fun h s => by
    unfold cancelOccupation
    split
    · exact s.keepsRecords_failOccupation h _
    · exact .refl s

theorem keepsRecords_includeRequest (b : Bool) (n : Nat) (s : State) :
    s.keepsRecords (includeRequest b n s).1 := by
  unfold includeRequest
  split
  · exact .refl s
  · split
    · exact ((s.sameRecords_modifyOccupation n).trans ((State.sameRecords_queueItem _ _).trans
        (State.sameRecords_revise _ _))).keeps
    · exact .refl s

theorem keepsRecords_excludeOccupation : KeepsRecords serveExcludeOccupation :=
  keepsRecords_fixedForm fun _ s _ => keepsRecords_includeRequest false _ s

theorem keepsRecords_includeOccupation : KeepsRecords serveIncludeOccupation :=
  keepsRecords_fixedForm fun _ s _ => keepsRecords_includeRequest true _ s

theorem keepsRecords_deleteOccupation : KeepsRecords serveDeleteOccupation :=
  keepsRecords_fixedForm fun p s _ => by
    unfold deleteOccupation
    split
    · exact .refl s
    · next o ho =>
      obtain ⟨-, hg⟩ := State.checkOccupation_eq_ok.1 ho
      split
      · exact .refl s
      · next hopen => exact State.keepsRecords_delete hg hopen

theorem keepsRecords_abandonLoop : KeepsRecords serveAbandonLoop :=
  keepsRecords_fixedForm fun p s _ => by
    unfold abandonLoop
    split
    · exact .refl s
    · exact ((s.sameRecords_abandon _).trans (State.sameRecords_revise _ _)).keeps

theorem keepsRecords_releaseLoop : KeepsRecords serveReleaseLoop :=
  keepsRecords_fixedForm fun p s _ => by
    unfold releaseLoop
    split
    · exact .refl s
    · split
      · exact (s.sameRecords_release _ _).keeps
      · exact .refl s

theorem keepsRecords_headReset : KeepsRecords serveHeadReset :=
  keepsRecords_fixedForm fun p s _ => by
    unfold headReset
    split
    · exact .refl s
    · exact (s.sameRecords_setChannel _ _).keeps.trans ((State.keepsRecords_failOccupation _ _ _).trans
        (State.sameRecords_withdraw _ _).keeps)

theorem keepsRecords_stageCalibration : KeepsRecords serveStageCalibration := fun p s _ => by
  unfold serveStageCalibration stageCalibration
  split
  · exact .refl s
  · exact State.sameRecords.keeps { State.sameRecords.refl s with }

theorem keepsRecords_writeConstituent : KeepsRecords serveWriteConstituent :=
  keepsRecords_fixedForm fun p s _ => by
    unfold writeConstituent
    dsimp only
    split
    · exact .refl s
    · split
      · exact .refl s
      · exact (s.sameRecords_writeEntry _ _).keeps

theorem keepsRecords_setConstants : KeepsRecords serveSetConstants :=
  keepsRecords_fixedForm fun _ s _ => (s.sameRecords_writeConstants _).keeps

theorem keepsRecords_setTime : KeepsRecords serveSetTime :=
  keepsRecords_fixedForm fun p s _ => by
    unfold setTime
    split
    · exact .refl s
    · split
      · exact .refl s
      · exact State.sameRecords.keeps { State.sameRecords.refl s with }

theorem keepsRecords_syncToPulse : KeepsRecords serveSyncToPulse :=
  keepsRecords_fixedForm fun p s _ => by
    unfold syncToPulse
    split
    · exact .refl s
    · exact State.sameRecords.keeps { State.sameRecords.refl s with }

theorem keepsRecords_clearNotices : KeepsRecords serveClearNotices :=
  keepsRecords_fixedForm fun _ s _ => State.sameRecords.keeps { State.sameRecords.refl s with }

theorem keepsRecords_setNoticeMask : KeepsRecords serveSetNoticeMask :=
  keepsRecords_fixedForm fun _ s _ => State.sameRecords.keeps { State.sameRecords.refl s with }

theorem keepsRecords_unknown : KeepsRecords serveUnknown := fun _ s _ => .refl s

end Server

theorem State.keepsRecords_requestFindNear (s : State) (tag : Byte) (p : List Byte) :
    s.keepsRecords (s.requestFindNear tag p) := by
  refine State.keepsRecords_receiveFrame (fun _ => ?_) tag p
  unfold State.takeFindNear
  split
  · exact (State.sameRecords_respond _ _ _).keeps
  · exact State.sameRecords.keeps { State.sameRecords.refl _ with }

theorem State.keepsRecords_linkReset (s : State) (tag : Byte) (p : List Byte) :
    s.keepsRecords (s.linkReset tag p) := by
  have htaken : s.sameRecords s.taken := { State.sameRecords.refl s with }
  unfold State.linkReset
  split
  · split
    · exact .refl s
    · split
      · exact (htaken.trans (State.sameRecords_respond _ _ _)).keeps
      · exact State.sameRecords.keeps { State.sameRecords.refl s with }
  · exact State.keepsRecords_request (serve := fun _ s' => (s', refusal .badField))
      (fun _ s' _ => .refl s') s tag p

/-- A good request frame keeps the invariants, whatever its code. -/
theorem State.keepsRecords_serveFrame (s : State) (r : Request) :
    s.keepsRecords (s.serveFrame r) := by
  unfold State.serveFrame
  split
  case h_1 => exact State.keepsRecords_request Server.keepsRecords_declareStation _ _ _
  case h_2 => exact State.keepsRecords_request Server.keepsRecords_editStation _ _ _
  case h_3 => exact State.keepsRecords_request (Server.keepsRecords_readForm _ _) _ _ _
  case h_4 => exact State.keepsRecords_request (Server.keepsRecords_readForm _ _) _ _ _
  case h_5 => exact s.keepsRecords_requestFindNear _ _
  case h_6 => exact State.keepsRecords_request Server.keepsRecords_retireStation _ _ _
  case h_7 => exact State.keepsRecords_request Server.keepsRecords_clearSurvey _ _ _
  case h_8 => exact State.keepsRecords_request Server.keepsRecords_openOccupation _ _ _
  case h_9 => exact State.keepsRecords_request Server.keepsRecords_forceIntegrate _ _ _
  case h_10 => exact State.keepsRecords_request Server.keepsRecords_stopOccupation _ _ _
  case h_11 => exact State.keepsRecords_request Server.keepsRecords_cancelOccupation _ _ _
  case h_12 => exact State.keepsRecords_request (Server.keepsRecords_readForm _ _) _ _ _
  case h_13 => exact State.keepsRecords_request Server.keepsRecords_excludeOccupation _ _ _
  case h_14 => exact State.keepsRecords_request Server.keepsRecords_includeOccupation _ _ _
  case h_15 => exact State.keepsRecords_request Server.keepsRecords_deleteOccupation _ _ _
  case h_16 => exact State.keepsRecords_request (Server.keepsRecords_readForm _ _) _ _ _
  case h_17 => exact State.keepsRecords_request Server.keepsRecords_abandonLoop _ _ _
  case h_18 => exact State.keepsRecords_request Server.keepsRecords_releaseLoop _ _ _
  case h_19 => exact State.keepsRecords_request (Server.keepsRecords_readForm _ _) _ _ _
  case h_20 => exact State.keepsRecords_request Server.keepsRecords_headReset _ _ _
  case h_21 => exact State.keepsRecords_request Server.keepsRecords_stageCalibration _ _ _
  case h_22 => exact State.keepsRecords_request (Server.keepsRecords_readForm _ _) _ _ _
  case h_23 => exact State.keepsRecords_request Server.keepsRecords_writeConstituent _ _ _
  case h_24 => exact State.keepsRecords_request (Server.keepsRecords_readForm _ _) _ _ _
  case h_25 => exact State.keepsRecords_request Server.keepsRecords_setConstants _ _ _
  case h_26 => exact State.keepsRecords_request Server.keepsRecords_setTime _ _ _
  case h_27 => exact State.keepsRecords_request Server.keepsRecords_syncToPulse _ _ _
  case h_28 => exact State.keepsRecords_request (Server.keepsRecords_readForm _ _) _ _ _
  case h_29 => exact State.keepsRecords_request (Server.keepsRecords_readForm _ _) _ _ _
  case h_30 => exact State.keepsRecords_request Server.keepsRecords_clearNotices _ _ _
  case h_31 => exact State.keepsRecords_request Server.keepsRecords_setNoticeMask _ _ _
  case h_32 => exact s.keepsRecords_linkReset _ _
  case h_33 => exact State.keepsRecords_request Server.keepsRecords_unknown _ _ _

/-! ## Transfers and events -/

theorem State.sameRecords_fetch (s : State) (n : Nat) : s.sameRecords (s.fetch n) :=
  { State.sameRecords.refl s with }

theorem State.sameRecords_losePulse (s : State) :
    s.sameRecords
      ({ s with pulse := { s.pulse with pulsing := false } }.setNotice .pulseLost) :=
  { State.sameRecords.refl s with }

theorem State.keepsRecords_transfer (s : State) (mosi : List Byte) :
    s.keepsRecords (s.transfer mosi) := by
  unfold State.transfer
  split
  · exact State.sameRecords.keeps { State.sameRecords.refl s with }
  · split
    · unfold State.requestTransfer
      split
      · exact s.keepsRecords_serveFrame _
      · exact State.sameRecords.keeps { State.sameRecords.refl s with }
    · split
      · exact (s.sameRecords_fetch _).keeps
      · exact State.sameRecords.keeps { State.sameRecords.refl s with }

theorem State.keepsRecords.whenRunning {s : State} {act : State → State}
    (h : s.keepsRecords (act s)) : s.keepsRecords (s.whenRunning act) := by
  unfold State.whenRunning
  split
  · exact h
  · exact .refl s

theorem State.keepsRecords_acceptPulse (s : State) : s.keepsRecords s.acceptPulse := by
  unfold State.acceptPulse
  dsimp only
  split
  · exact State.sameRecords.keeps { State.sameRecords.refl s with }
  · exact State.sameRecords.keeps { State.sameRecords.refl s with }

theorem State.keepsRecords_endScan (s : State) : s.keepsRecords s.endScan := by
  unfold State.endScan
  split
  · exact State.sameRecords.keeps { State.sameRecords.refl s with }
  · exact .refl s

/-- What is done on a condition. -/
theorem State.keepsRecords.ite {s t : State} {c : Prop} {_ : Decidable c} (h : s.keepsRecords t) :
    s.keepsRecords (if c then t else s) := by
  split
  · exact h
  · exact .refl s

/-! ## Supply and reset -/

theorem State.keepsRecords_resetNAssert (s : State) :
    s.keepsRecords { s with resetLow := true, startup := false, scan := none } where
  indexed := id
  chains _ := id
  engines _ _ he hv := by
    obtain ⟨hb, -, hh⟩ | ⟨hb, -, hi⟩ := he hv
    · exact .inl ⟨hb, rfl, hh⟩
    · exact .inr ⟨hb, .inr rfl, hi⟩

theorem State.keepsRecords_vddFail (s : State) : s.keepsRecords { s.resetMain with vdd := false } :=
  ⟨id, fun _ => id, fun _ _ _ => nofun⟩

theorem State.keepsRecords_backupDomainLoss (s : State) :
    s.keepsRecords { s.resetMain.loseBackup with vdd := false } :=
  ⟨fun _ => State.recordsIndexed_of_empty rfl rfl rfl rfl,
    fun _ _ => State.chainsAgree_of_empty rfl rfl, fun _ _ _ => nofun⟩

theorem State.keepsRecords_backupLostStartup (s : State) :
    s.keepsRecords (if s.running && s.startup then s.rebuildBackup else s) := by
  split
  · next hs =>
    simp only [State.running, Bool.and_eq_true] at hs
    exact State.keepsRecords_rebuildBackup hs.1.1 hs.2
  · exact .refl s

/-! ## The step -/

/-- A command that carries a request does what the request's frame does (R184, R199; log 6). -/
theorem exec_of_request {i : Instr} {r : Request} (h : i.request? = some r) (s : State) :
    exec i s = .next (s.serveFrame r) := by
  cases i <;> cases h <;> rfl

/-- Every event of a line, a unit, time or supply keeps the three invariants. -/
theorem event_keepsRecords {c : Instr} (hr : c.request? = none) (s : State) :
    ∃ t, exec c s = .next t ∧ s.keepsRecords t := by
  cases c
  case findNearScanEnd => exact ⟨_, rfl, s.keepsRecords_endScan.ite⟩
  case badRequestFrame => exact ⟨_, rfl, (s.keepsRecords_transfer _).whenRunning⟩
  case fetchTransfer => exact ⟨_, rfl, (s.sameRecords_fetch _).keeps.whenRunning⟩
  case statusTransfer => exact ⟨_, rfl, (s.keepsRecords_transfer _).whenRunning⟩
  case headFrame h b => exact ⟨_, rfl, (s.keepsRecords_receiveCharacter h b).whenRunning⟩
  case headLineCharacter h b => exact ⟨_, rfl, (s.keepsRecords_receiveCharacter h b).whenRunning⟩
  case characterFramingError h => exact ⟨_, rfl, (s.sameRecords_framingError h).keeps.whenRunning⟩
  case frameBrokenOff h => exact ⟨_, rfl, (s.sameRecords_countCorrupt h _).keeps.ite.whenRunning⟩
  case headTimeout h => exact ⟨_, rfl, (s.sameRecords_loseHead h).keeps.whenRunning⟩
  case settleCountReached h => exact ⟨_, rfl, (s.sameRecords_settleReached h).keeps.whenRunning⟩
  case targetReached h => exact ⟨_, rfl, (s.keepsRecords_targetReached h).whenRunning⟩
  case settlingDeadline h => exact ⟨_, rfl, (s.keepsRecords_failOccupation h _).ite.whenRunning⟩
  case capDeadline h => exact ⟨_, rfl, (s.keepsRecords_capIntegration h).ite.whenRunning⟩
  case tideEvaluationComplete => exact ⟨_, rfl, s.keepsRecords_completeEvaluation.whenRunning⟩
  case driftApplyComplete => exact ⟨_, rfl, s.sameRecords_endApply.keeps.whenRunning⟩
  case timePulse => exact ⟨_, rfl, s.keepsRecords_acceptPulse.ite.whenRunning⟩
  case pulseLoss => exact ⟨_, rfl, s.sameRecords_losePulse.keeps.ite.whenRunning⟩
  case clockHoldAtMax => exact ⟨_, rfl, State.sameRecords.keeps { State.sameRecords.refl s with }⟩
  case partStart => exact ⟨_, rfl, s.keepsRecords_start⟩
  case backupLostStartup => exact ⟨_, rfl, s.keepsRecords_backupLostStartup⟩
  case resetNAssert => exact ⟨_, rfl, s.keepsRecords_resetNAssert⟩
  case vddFail => exact ⟨_, rfl, s.keepsRecords_vddFail⟩
  case backupDomainLoss => exact ⟨_, rfl, s.keepsRecords_backupDomainLoss⟩
  all_goals cases hr

/-- Every command keeps the three invariants of the indexed records. -/
theorem exec_keepsRecords {c : Instr} {s t : State} (h : exec c s = .next t) :
    s.keepsRecords t := by
  cases hr : c.request? with
  | some r =>
    rw [exec_of_request hr] at h
    cases h
    exact s.keepsRecords_serveFrame r
  | none =>
    obtain ⟨t', ht, hk⟩ := event_keepsRecords hr s
    rw [ht] at h
    cases h
    exact hk

/-- Every step keeps the three invariants of the indexed records. -/
theorem step_keepsRecords {s t : State} (h : step s = .next t) : s.keepsRecords t := by
  unfold step at h
  split at h
  · cases h
    exact s.sameRecords_tick.keeps
  · next c rest _ =>
    have hp : s.sameRecords (s.withPending rest) := { State.sameRecords.refl s with }
    exact hp.keeps.trans (exec_keepsRecords h)

/-- Settles O53: each of the model's commands keeps the three invariants, and so does every step. -/
theorem recordsStayIndexed : Obligations.RecordsStayIndexed :=
  ⟨fun _ _ hi h => (step_keepsRecords h).indexed hi,
    fun _ _ hi hc h => (step_keepsRecords h).chains hi hc,
    fun _ _ hi hc he h => (step_keepsRecords h).engines hi hc he⟩

end Sys2Proof.Machine
end

section
/-! Requests as they are served and answered (R182 to R188), and the operands read back from the
payload that carries them (R199). -/

namespace Sys2Proof.Machine

/-! ## A request served -/

/-- What can come of a request frame (R178, R182 to R185). -/
theorem State.receiveFrame_cases (s : State) (tag : Byte) (p : List Byte) (act : State → State) :
    s.receiveFrame tag p act = s ∨ s.receiveFrame tag p act = s.rejected
      ∨ s.receiveFrame tag p act = s.taken
      ∨ s.receiveFrame tag p act = s.taken.respond tag (refusal .busy)
      ∨ s.receiveFrame tag p act = act s.taken := by
  unfold State.receiveFrame
  split
  · exact .inl rfl
  · split
    · exact .inr (.inl rfl)
    · split
      · exact .inr (.inr (.inl rfl))
      · split
        · exact .inr (.inr (.inr (.inl rfl)))
        · exact .inr (.inr (.inr (.inr rfl)))

/-- A good frame that is taken does what its request does. -/
theorem State.receiveFrame_of_serves {s : State} (h : s.serves) {p : List Byte} (hp : p.length ≤ 512)
    (tag : Byte) (act : State → State) : s.receiveFrame tag p act = act s.taken := by
  obtain ⟨hr, hu, hl⟩ := h
  unfold State.receiveFrame
  rw [hr, hu, if_neg (by decide), 
    if_neg (show ¬Config.maxPayload < p.length from Nat.not_lt.2 hp)]
  cases hlink : s.link with
  | working r => simp [hlink, LinkState.isWorking] at hl
  | idle => rfl
  | answered f => rfl

/-- A request of fixed form that is served and answered (R185, R186). -/
theorem State.request_fixedForm {s : State} (h : s.serves) {n : Nat} {p : List Byte}
    (hp : p.length = n) (hn : n ≤ 512) (tag : Byte) (serve : Server) :
    s.request tag p (fixedForm n serve) = (serve p s.taken).1.respond tag (serve p s.taken).2 := by
  rw [State.request, State.receiveFrame_of_serves h (hp ▸ hn), fixedForm, if_pos hp]

/-- The maximum length operand is read from the end of a read request (R188). -/
theorem maximumLength_append {m : Nat} (hm : m < 65536) (p : List Byte) :
    maximumLength (p ++ beBytes 2 m) = m := by
  rw [maximumLength, List.length_append, length_beBytes, Nat.add_sub_cancel, List.drop_left]
  exact beNat_beBytes hm

/-- A read request that is served: its answer, cut (R188). -/
theorem State.request_readForm {s : State} (h : s.serves) {n m : Nat} {p : List Byte}
    (hp : p.length + 2 = n) (hn : n ≤ 512) (hm : m < 65536) (tag : Byte)
    (answer : List Byte → State → Answer) :
    s.request tag (p ++ beBytes 2 m) (readForm n answer)
      = s.answeredAs s.statusByte tag (cut m (answer (p ++ beBytes 2 m) s.taken)) := by
  rw [readForm, State.request_fixedForm h (by simpa using hp) hn, maximumLength_append hm]
  rfl

theorem cut_done (m : Nat) (b : List Byte) : cut m (done b) = ⟨.done, b.take (min m 512)⟩ := rfl

theorem cut_refusal (m : Nat) (c : ResponseCode) : cut m (refusal c) = ⟨c, []⟩ := by
  simp [cut, refusal]

/-! ## The checks on numbers of records -/

theorem State.checkSlot_of_limit {s : State} {k : Nat} (h : s.partition.slots ≤ k) :
    s.checkSlot k = .error .badField := by
  rw [State.checkSlot, if_pos h]

theorem State.checkSlot_of_free {s : State} {k : Nat} (h : k < s.partition.slots)
    (hg : Table.get s.stations k = none) : s.checkSlot k = .error .notFound := by
  rw [State.checkSlot, if_neg (Nat.not_le.2 h), hg]

theorem State.checkOccupation_of_limit {s : State} {n : Nat} (h : s.partition.records ≤ n) :
    s.checkOccupation n = .error .badField := by
  rw [State.checkOccupation, if_pos h]

theorem State.checkOccupation_of_free {s : State} {n : Nat} (h : n < s.partition.records)
    (hg : Table.get s.occupations n = none) : s.checkOccupation n = .error .notFound := by
  rw [State.checkOccupation, if_neg (Nat.not_le.2 h), hg]

theorem State.checkLoop_eq_ok {s : State} {k : Nat} {l : Loop} :
    s.checkLoop k = .ok l ↔ k < 32 ∧ Table.get s.loops k = some l := by
  unfold State.checkLoop Config.loopEntries
  split
  · next h => simp [Nat.not_lt.2 h]
  · next h => cases Table.get s.loops k <;> simp [Nat.not_le.1 h]

theorem State.checkLoop_of_limit {s : State} {k : Nat} (h : 32 ≤ k) :
    s.checkLoop k = .error .badField := by
  rw [State.checkLoop, if_pos (show Config.loopEntries ≤ k from h)]

theorem State.checkLoop_of_free {s : State} {k : Nat} (h : k < 32)
    (hg : Table.get s.loops k = none) : s.checkLoop k = .error .notFound := by
  rw [State.checkLoop, if_neg (show ¬Config.loopEntries ≤ k from Nat.not_le.2 h), hg]

theorem Partition.slots_lt (p : Partition) : p.slots < 65536 := by
  cases p <;> decide

theorem Partition.records_lt (p : Partition) : p.records < 65536 := by
  cases p <;> decide

/-! ## Fields of a payload -/

/-- A number that begins a payload is read back. -/
theorem fieldNat_beBytes_append {n v : Nat} (h : v < 256 ^ n) (p : List Byte) :
    fieldNat 0 n (beBytes n v ++ p) = v :=
  fieldNat_of (as := []) rfl h

/-- A name that fits its 12 bytes, as it is sent. -/
theorem length_nameBytes {n : List Byte} (h : n.length ≤ 12) : (nameBytes n).length = 12 := by
  rw [nameBytes, List.length_append, List.length_replicate]
  omega

/-- A name without 0x00 is read back up to its end (R199 part 2). -/
theorem nameField_append {at_ : Nat} {as raw cs : List Byte} (ha : as.length = at_)
    (hl : raw.length ≤ 12) (h0 : (0 : Byte) ∉ raw) :
    nameField at_ (as ++ (nameBytes raw ++ cs)) = raw := by
  have hall : ∀ b ∈ raw, (b != 0) = true := fun b hb => by
    rw [bne_iff_ne]
    rintro rfl
    exact h0 hb
  rw [nameField, fieldBytes_of ha (length_nameBytes hl), nameBytes, List.takeWhile_append_of_pos hall]
  cases 12 - raw.length <;> simp

theorem getD_append_cons {as cs : List Byte} {at_ : Nat} {b d : Byte} (ha : as.length = at_) :
    (as ++ (b :: cs)).getD at_ d = b := by
  subst ha
  simp

/-! ## The operands of DECLARE_STATION -/

theorem DeclareOperands.length_toPayload {o : DeclareOperands} (h : o.name.length ≤ 12) :
    o.toPayload.length = 21 := by
  simp [DeclareOperands.toPayload, length_nameBytes h]

/-- A signed number of 32 bits. -/
def fitsInt32 (v : Int) : Prop := -2147483648 ≤ v ∧ v ≤ 2147483647

theorem fieldInt32_of {at_ : Nat} {v : Int} {as cs : List Byte} (ha : as.length = at_)
    (h : fitsInt32 v) : fieldInt at_ 4 (as ++ (beSignedBytes 4 v ++ cs)) = v := by
  obtain ⟨h1, h2⟩ := h
  exact fieldInt_of ha (by norm_num; omega) (by norm_num; omega)

theorem fitsInt32_of_normLatitude {v w : Int} (h : normLatitude v = some w) : fitsInt32 v := by
  unfold normLatitude at h
  split at h
  · next hv => exact ⟨by omega, by omega⟩
  · cases h

theorem fitsInt32_of_normLongitude {v w : Int} (h : normLongitude v = some w) : fitsInt32 v := by
  unfold normLongitude at h
  split at h
  · cases h
  · next hv => exact ⟨by omega, by omega⟩

/-- What DECLARE_STATION carries is what its payload was made of (R199). -/
theorem DeclareOperands.ofPayload_toPayload {o : DeclareOperands} (hl : o.name.length ≤ 12)
    (h0 : (0 : Byte) ∉ o.name) (hla : fitsInt32 o.latitude) (hlo : fitsInt32 o.longitude) :
    DeclareOperands.ofPayload o.toPayload = o := by
  have hn := length_nameBytes hl
  have hname : nameField 0 o.toPayload = o.name := by
    simpa [DeclareOperands.toPayload] using nameField_append (as := []) rfl hl h0
  have hrole : o.toPayload.getD 12 0 = o.role := by
    simpa [DeclareOperands.toPayload] using getD_append_cons (d := 0) hn
  have hlat : fieldInt 13 4 o.toPayload = o.latitude := by
    simpa [DeclareOperands.toPayload] using
      fieldInt32_of (as := nameBytes o.name ++ [o.role]) (cs := beSignedBytes 4 o.longitude)
        (by simp [hn]) hla
  have hlon : fieldInt 17 4 o.toPayload = o.longitude := by
    simpa [DeclareOperands.toPayload] using
      fieldInt32_of (as := nameBytes o.name ++ [o.role] ++ beSignedBytes 4 o.latitude) (cs := [])
        (by simp [hn]) hlo
  rw [DeclareOperands.ofPayload, hname, hrole, hlat, hlon]

end Sys2Proof.Machine
end

section
/-! The read requests: what they leave as it is, and what they answer (R188, R200). -/

namespace Sys2Proof.Machine

/-- A read request changes the link and MISO alone (R188). -/
theorem State.request_readForm_frame (s : State) (tag : Byte) (p : List Byte) (n : Nat)
    (answer : List Byte → State → Answer) :
    ∃ l b m, s.request tag p (readForm n answer)
      = { s with link := l, lastRejected := b, miso := m } := by
  have hserve : (readForm n answer p s.taken).1 = s.taken := by
    unfold readForm fixedForm
    split <;> rfl
  obtain h | h | h | h | h := s.receiveFrame_cases tag p fun s' =>
    (readForm n answer p s').1.respond tag (readForm n answer p s').2
  · exact ⟨_, _, _, h⟩
  · exact ⟨_, _, _, h⟩
  · exact ⟨_, _, _, h⟩
  · exact ⟨_, _, _, h⟩
  · rw [hserve] at h
    exact ⟨_, _, _, h⟩

/-- FIND_NEAR changes the link, MISO and the scan alone (R20). -/
theorem State.requestFindNear_frame (s : State) (tag : Byte) (p : List Byte) :
    ∃ l b m q, s.requestFindNear tag p
      = { s with link := l, lastRejected := b, miso := m, scan := q } := by
  obtain h | h | h | h | h := s.receiveFrame_cases tag p fun s' => s'.takeFindNear tag p
  · exact ⟨_, _, _, _, h⟩
  · exact ⟨_, _, _, _, h⟩
  · exact ⟨_, _, _, _, h⟩
  · exact ⟨_, _, _, _, h⟩
  · rw [State.requestFindNear, h]
    unfold State.takeFindNear
    split
    · exact ⟨_, _, _, _, rfl⟩
    · exact ⟨_, _, _, _, rfl⟩

/-- Settles O12: nine read requests change the link and MISO, and FIND_NEAR the scan too. -/
theorem readsChangeNothing : Obligations.ReadsChangeNothing := by
  intro i s t hi h
  have hread {tag : Byte} {p : List Byte} {n : Nat} {answer : List Byte → State → Answer}
      (h : Host.Outcome.next (φ := Fault) (ρ := Refusal) (s.request tag p (readForm n answer))
        = .next t) :
      t = { s with
            link := t.link, lastRejected := t.lastRejected, miso := t.miso, scan := t.scan }
        ∧ ((∀ tag p, i ≠ .findNear tag p) → t.scan = s.scan) := by
    obtain ⟨l, b, m, hr⟩ := s.request_readForm_frame tag p n answer
    rw [hr] at h
    cases h
    exact ⟨rfl, fun _ => rfl⟩
  cases i
  case readStation => exact hread h
  case findName => exact hread h
  case findNear tag p =>
    obtain ⟨l, b, m, q, hr⟩ := s.requestFindNear_frame tag p
    rw [show exec (.findNear tag p) s = .next (s.requestFindNear tag p) from rfl, hr] at h
    cases h
    exact ⟨rfl, fun hne => absurd rfl (hne tag p)⟩
  case readOccupation => exact hread h
  case readLoop => exact hread h
  case readHead => exact hread h
  case readCalibration => exact hread h
  case readConstituent => exact hread h
  case readTime => exact hread h
  case readStatus => exact hread h
  all_goals cases hi

/-! ## The record reads -/

section

variable {s : State} (h : s.serves) {m : Nat} (hm : m < 65536) (tag : Byte)

include h hm

theorem exec_readStation {k : Nat} (hk : k < 65536) :
    exec (.readStation tag (beBytes 2 k ++ beBytes 2 m)) s
      = .next (s.answeredAs s.statusByte tag (cut m (readStation k s))) := by
  refine congrArg Host.Outcome.next ((State.request_readForm h (n := 4) (by simp) (by decide) hm tag
    fun p s => readStation (fieldNat 0 2 p) s).trans ?_)
  rw [fieldNat_beBytes_append hk]
  rfl

theorem exec_readOccupation {n : Nat} (hn : n < 65536) :
    exec (.readOccupation tag (beBytes 2 n ++ beBytes 2 m)) s
      = .next (s.answeredAs s.statusByte tag (cut m (readOccupation n s))) := by
  refine congrArg Host.Outcome.next ((State.request_readForm h (n := 4) (by simp) (by decide) hm tag
    fun p s => readOccupation (fieldNat 0 2 p) s).trans ?_)
  rw [fieldNat_beBytes_append hn]
  rfl

theorem exec_readLoop {k : Nat} (hk : k < 256) :
    exec (.readLoop tag (beBytes 1 k ++ beBytes 2 m)) s
      = .next (s.answeredAs s.statusByte tag (cut m (readLoop k s))) := by
  refine congrArg Host.Outcome.next ((State.request_readForm h (n := 3) (by simp) (by decide) hm tag
    fun p s => readLoop (fieldNat 0 1 p) s).trans ?_)
  rw [fieldNat_beBytes_append hk]
  rfl

theorem exec_findName {raw : List Byte} (hl : raw.length ≤ 12) (h0 : (0 : Byte) ∉ raw) :
    exec (.findName tag (nameBytes raw ++ beBytes 2 m)) s
      = .next (s.answeredAs s.statusByte tag (cut m (findName raw s))) := by
  have hname : nameField 0 (nameBytes raw ++ beBytes 2 m) = raw :=
    nameField_append (as := []) rfl hl h0
  refine congrArg Host.Outcome.next ((State.request_readForm h (n := 14)
    (by simp [length_nameBytes hl]) (by decide) hm tag
    fun p s => findName (nameField 0 p) s).trans ?_)
  rw [hname]
  rfl

end

theorem readStation_of_get {s : State} {k : Nat} {st : Station} (hk : k < s.partition.slots)
    (hg : Table.get s.stations k = some st) : readStation k s = done (stationBytes k st) := by
  rw [readStation, State.checkSlot_eq_ok.2 ⟨hk, hg⟩]

theorem readOccupation_of_get {s : State} {n : Nat} {o : Occupation} (hn : n < s.partition.records)
    (hg : Table.get s.occupations n = some o) :
    readOccupation n s = done (occupationBytes n o (s.engines.get o.head)) := by
  rw [readOccupation, State.checkOccupation_eq_ok.2 ⟨hn, hg⟩]

theorem readLoop_of_get {s : State} {k : Nat} {l : Loop} (hk : k < 32)
    (hg : Table.get s.loops k = some l) : readLoop k s = done (s.loopBytes k l) := by
  rw [readLoop, State.checkLoop_eq_ok.2 ⟨hk, hg⟩]

/-- Settles O14, clause by clause: each read's answer is its owner's, cut. -/
theorem recordReadsAnswered : Obligations.RecordReadsAnswered := by
  intro tag m s hs hm
  refine ⟨fun k st hk hg => ?_, fun raw n k st hl h0 hn hslot hg => ?_, fun n o hn hg => ?_,
    fun k l hk hg => ?_, fun k hk => ⟨fun hlim => ?_, fun hlt hg => ?_⟩,
    fun raw hl h0 => ⟨fun hn => ?_, fun n hn hslot => ?_⟩,
    fun n hn => ⟨fun hlim => ?_, fun hlt hg => ?_⟩, fun k hk => ⟨fun hlim => ?_, fun hlt hg => ?_⟩⟩
  · rw [exec_readStation hs hm tag (hk.trans s.partition.slots_lt), readStation_of_get hk hg, cut_done]
  · rw [exec_findName hs hm tag hl h0, findName, hn]
    simp only [hslot, hg, cut_done]
  · rw [exec_readOccupation hs hm tag (hn.trans s.partition.records_lt), readOccupation_of_get hn hg,
      cut_done]
  · rw [exec_readLoop hs hm tag (by omega), readLoop_of_get hk hg, cut_done]
  · rw [State.refuses, exec_readStation hs hm tag hk, readStation, State.checkSlot_of_limit hlim]
    simp only [cut_refusal]
  · rw [State.refuses, exec_readStation hs hm tag hk, readStation, State.checkSlot_of_free hlt hg]
    simp only [cut_refusal]
  · rw [State.refuses, exec_findName hs hm tag hl h0, findName, hn]
    simp only [cut_refusal]
  · rw [State.refuses, exec_findName hs hm tag hl h0, findName, hn]
    simp only [hslot, cut_refusal]
  · rw [State.refuses, exec_readOccupation hs hm tag hn, readOccupation,
      State.checkOccupation_of_limit hlim]
    simp only [cut_refusal]
  · rw [State.refuses, exec_readOccupation hs hm tag hn, readOccupation,
      State.checkOccupation_of_free hlt hg]
    simp only [cut_refusal]
  · rw [State.refuses, exec_readLoop hs hm tag hk, readLoop, State.checkLoop_of_limit hlim]
    simp only [cut_refusal]
  · rw [State.refuses, exec_readLoop hs hm tag hk, readLoop, State.checkLoop_of_free hlt hg]
    simp only [cut_refusal]

end Sys2Proof.Machine
end

section
/-! DECLARE_STATION, CLEAR_SURVEY and FIND_NEAR: what they write, and their refusals in order. -/

namespace Sys2Proof.Machine

/-! ## DECLARE_STATION -/

theorem exec_declareStation {s : State} (h : s.serves) (tag : Byte) {o : DeclareOperands}
    (hl : o.name.length ≤ 12) (h0 : (0 : Byte) ∉ o.name) (hla : fitsInt32 o.latitude)
    (hlo : fitsInt32 o.longitude) :
    exec (.declareStation tag o.toPayload) s
      = .next ((declareStation o s.taken).1.respond tag (declareStation o s.taken).2) := by
  refine congrArg Host.Outcome.next ((State.request_fixedForm h (n := 21)
    (DeclareOperands.length_toPayload hl) (by decide) tag
    fun p s => declareStation (.ofPayload p) s).trans ?_)
  rw [DeclareOperands.ofPayload_toPayload hl h0 hla hlo]

/-- A declaration refused: nothing at any owner changes. -/
theorem refuses_declareStation {s : State} (h : s.serves) (tag : Byte) {o : DeclareOperands}
    (hl : o.name.length ≤ 12) (h0 : (0 : Byte) ∉ o.name) (hla : fitsInt32 o.latitude)
    (hlo : fitsInt32 o.longitude) {c : ResponseCode}
    (hc : declareStation o s.taken = (s.taken, refusal c)) :
    s.refuses (.declareStation tag o.toPayload) tag c := by
  rw [State.refuses, exec_declareStation h tag hl h0 hla hlo, hc]
  rfl

section

variable {s : State} {o : DeclareOperands}

theorem declareStation_of_illegal
    (h : legalName o.name = none ∨ Role.ofCode o.role = none ∨ normLatitude o.latitude = none
      ∨ normLongitude o.longitude = none) : declareStation o s = (s, refusal .badField) := by
  unfold declareStation
  split
  · simp_all
  · rfl

variable {n : Name} {r : Role} {la lo : Int} (hn : legalName o.name = some n)
  (hr : Role.ofCode o.role = some r) (hla : normLatitude o.latitude = some la)
  (hlo : normLongitude o.longitude = some lo)

include hn hr hla hlo

theorem declareStation_of_taken (h : s.nameHeld n none = true) :
    declareStation o s = (s, refusal .nameTaken) := by
  simp only [declareStation, hn, hr, hla, hlo, h, if_true]

theorem declareStation_of_full (h : s.nameHeld n none = false)
    (hk : Table.firstFree s.stations s.partition.slots = none) :
    declareStation o s = (s, refusal .tableFull) := by
  simp only [declareStation, hn, hr, hla, hlo, h, hk, Bool.false_eq_true, if_false]

theorem declareStation_of_free (h : s.nameHeld n none = false) {k : Nat}
    (hk : Table.firstFree s.stations s.partition.slots = some k) :
    declareStation o s
      = ({ s with
           stations := Table.put s.stations k (Station.fresh n r la lo)
           nameIndex := Table.put s.nameIndex k n },
         done (beBytes 2 k ++ nameBytes n ++ beSignedBytes 4 lo)) := by
  simp only [declareStation, hn, hr, hla, hlo, h, hk, Bool.false_eq_true, if_false]

end

theorem State.nameHeld_none_eq_false {s : State} {n : Name} :
    s.nameHeld n none = false ↔ ∀ e ∈ s.nameIndex, e.2 ≠ n := by
  simp [State.nameHeld_eq_false]

theorem State.nameHeld_none_eq_true {s : State} {n : Name} :
    s.nameHeld n none = true ↔ ∃ e ∈ s.nameIndex, e.2 = n := by
  simp [State.nameHeld_eq_true]

/-- Settles O17: the three clauses are what declareStation does, the meaning of the lowest FREE slot,
and its refusals in order. -/
theorem declareStationWrites : Obligations.DeclareStationWrites := by
  refine ⟨?_, fun t limit k => Table.firstFree_eq_some, ?_⟩
  · intro tag raw role la lo n r la' lo' k s hs hl h0 hn hr hla hlo hfree hk
    rw [exec_declareStation hs tag hl h0 (fitsInt32_of_normLatitude hla)
      (fitsInt32_of_normLongitude hlo), declareStation_of_free (s := s.taken) hn hr hla hlo
        (State.nameHeld_none_eq_false.2 hfree) hk]
    rfl
  · intro tag raw role la lo s hs hl h0 hla1 hla2 hlo1 hlo2
    have hrefuses {c : ResponseCode} := refuses_declareStation hs tag (o := ⟨raw, role, la, lo⟩) (c := c)
      hl h0 ⟨hla1, hla2⟩ ⟨hlo1, hlo2⟩
    refine ⟨fun h => hrefuses (declareStation_of_illegal h), fun n hn hr hla hlo => ?_⟩
    obtain ⟨r, hr⟩ := Option.ne_none_iff_exists'.1 hr
    obtain ⟨la', hla⟩ := Option.ne_none_iff_exists'.1 hla
    obtain ⟨lo', hlo⟩ := Option.ne_none_iff_exists'.1 hlo
    exact ⟨fun h => hrefuses (declareStation_of_taken hn hr hla hlo
        (State.nameHeld_none_eq_true.2 h)),
      fun h hk => hrefuses (declareStation_of_full hn hr hla hlo
        (State.nameHeld_none_eq_false.2 h) hk)⟩

/-! ## CLEAR_SURVEY -/

theorem exec_clearSurvey {s : State} (h : s.serves) (tag code : Byte) :
    exec (.clearSurvey tag [code]) s
      = .next ((clearSurvey code s.taken).1.respond tag (clearSurvey code s.taken).2) :=
  congrArg Host.Outcome.next (State.request_fixedForm h (n := 1) rfl (by decide) tag
    fun p s => clearSurvey (p.getD 0 0) s)

theorem refuses_clearSurvey {s : State} (h : s.serves) (tag code : Byte) {c : ResponseCode}
    (hc : clearSurvey code s.taken = (s.taken, refusal c)) :
    s.refuses (.clearSurvey tag [code]) tag c := by
  rw [State.refuses, exec_clearSurvey h tag code, hc]
  rfl

theorem Partition.ofCode_eq_none {b : Byte} :
    Partition.ofCode b = none ↔ b.toNat = 0 ∨ 3 < b.toNat := by
  unfold Partition.ofCode
  split <;> simp_all
  omega

/-- What a withdrawal leaves of the Tide Engine depends on the Tide Engine alone. -/
theorem State.withdraw_tide_congr {s t : State} (h : t.tide = s.tide) (src : TideSource) :
    (t.withdraw src).tide = (s.withdraw src).tide := by
  unfold State.withdraw
  rw [h]
  split
  · exact h
  · rfl
  · rfl

theorem State.withdraw_slot (s : State) (src : TideSource) :
    (s.withdraw src).tide.slot src = .empty := by
  unfold State.withdraw
  split
  · assumption
  · exact TideEngine.slot_setSlot_self _ _ _
  · exact TideEngine.slot_setSlot_self _ _ _

theorem State.withdraw_revision_headSlots (s : State) :
    (s.withdraw .revision).tide.headSlots = s.tide.headSlots := by
  unfold State.withdraw
  split <;> rfl

/-- The item in flight abandoned: a TIDE_REDO's request is withdrawn (R106, R135). -/
theorem State.dropInFlight_eq (s : State) :
    s.dropInFlight = { s with
      inFlight := none
      tide := if s.redoing.isSome then (s.withdraw .revision).tide else s.tide } := by
  cases hf : s.inFlight with
  | none =>
    simp only [State.dropInFlight, State.redoing, hf]
    exact congrArg (fun f => { s with inFlight := f }) hf
  | some f =>
    cases f with
    | tideRedo o held ks =>
      obtain ⟨t, ht⟩ := State.withdraw_frame { s with inFlight := none } .revision
      have hc := State.withdraw_tide_congr (s := s) (t := { s with inFlight := none }) rfl .revision
      rw [ht] at hc
      simp only [State.dropInFlight, State.redoing, hf, ht, ← hc, Option.isSome_some, if_true]
    | driftApply l k =>
      simp only [State.dropInFlight, State.redoing, hf]
      rfl

theorem clear_eq (s : State) (part : Partition) :
    s.clear part = { s with
      partition := part, stations := [], nameIndex := [], occupations := [], loops := []
      revQueue := [], inFlight := none
      tide := if s.redoing.isSome then (s.withdraw .revision).tide else s.tide
      notices := if s.revisionBusy then s.notices ||| Notice.revisionIdle.flag else s.notices } := by
  unfold State.clear
  rw [State.dropInFlight_eq]
  cases s.revisionBusy <;> rfl

/-- Settles O21: the survey cleared is the state written out, and the two refusals are the server's. -/
theorem clearSurveyEmptiesTheStores : Obligations.ClearSurveyEmptiesTheStores := by
  intro tag code s hs
  refine ⟨fun part hp ho => ?_, fun hcode => ?_, fun h1 h3 ho => ?_⟩
  · have hclear : clearSurvey code s.taken = (s.taken.clear part, done (beBytes 1 part.code)) := by
      rw [clearSurvey, hp]
      exact if_neg (Bool.eq_false_iff.1 ho)
    refine ⟨_, ?_, rfl, ?_, fun hr => ?_⟩
    · rw [exec_clearSurvey hs, hclear, clear_eq,
        State.withdraw_tide_congr (s := s) (t := s.taken) rfl]
      rfl
    · dsimp only
      split
      · exact s.withdraw_revision_headSlots
      · rfl
    · dsimp only
      rw [if_pos hr]
      exact s.withdraw_slot .revision
  · refine refuses_clearSurvey hs tag code ?_
    rw [clearSurvey, Partition.ofCode_eq_none.2 hcode]
  · refine refuses_clearSurvey hs tag code ?_
    obtain ⟨part, hp⟩ : ∃ part, Partition.ofCode code = some part :=
      Option.ne_none_iff_exists'.1 fun hn => by
        have := Partition.ofCode_eq_none.1 hn
        omega
    rw [clearSurvey, hp]
    exact if_pos ho

/-! ## FIND_NEAR -/

/-- The payload of FIND_NEAR (R199). -/
def nearPayload (la lo : Int) (radius m : Nat) : List Byte :=
  beSignedBytes 4 la ++ beSignedBytes 4 lo ++ beBytes 4 radius ++ beBytes 2 m

/-- The query read back from a payload is the one its operands prepare. -/
theorem nearOfPayload_nearPayload {la lo : Int} {radius m : Nat} (hla : fitsInt32 la)
    (hlo : fitsInt32 lo) (hr : radius < 4294967296) :
    nearOfPayload (nearPayload la lo radius m) = prepareNear la lo radius := by
  have hlat : fieldInt 0 4 (nearPayload la lo radius m) = la := by
    simpa [nearPayload] using fieldInt32_of (as := [])
      (cs := beSignedBytes 4 lo ++ (beBytes 4 radius ++ beBytes 2 m)) rfl hla
  have hlon : fieldInt 4 4 (nearPayload la lo radius m) = lo := by
    simpa [nearPayload] using fieldInt32_of (as := beSignedBytes 4 la)
      (cs := beBytes 4 radius ++ beBytes 2 m) (by simp) hlo
  have hrad : fieldNat 8 4 (nearPayload la lo radius m) = radius := by
    simpa [nearPayload] using fieldNat_of (at_ := 8) (n := 4)
      (as := beSignedBytes 4 la ++ beSignedBytes 4 lo) (cs := beBytes 2 m) (by simp) hr
  rw [nearOfPayload, if_pos (by simp [nearPayload]), hlat, hlon, hrad]

theorem exec_findNear {s : State} (h : s.serves) (tag : Byte) (la lo : Int) (radius m : Nat) :
    exec (.findNear tag (nearPayload la lo radius m)) s
      = .next (s.taken.takeFindNear tag (nearPayload la lo radius m)) :=
  congrArg Host.Outcome.next (State.receiveFrame_of_serves h (by simp [nearPayload]) tag _)

/-- Settles O22: the request and the end of its scan, each read off its equation. -/
theorem findNearScans : Obligations.FindNearScans := by
  refine ⟨?_, ?_, ?_⟩
  · intro tag la lo la' lo' radius m s hs hla hlo hr _
    have hq := nearOfPayload_nearPayload (m := m) (fitsInt32_of_normLatitude hla)
      (fitsInt32_of_normLongitude hlo) hr
    refine (exec_findNear hs tag la lo radius m).trans ?_
    rw [State.takeFindNear, hq, prepareNear, hla, hlo]
    rfl
  · intro tag la lo radius m s hs hla1 hla2 hlo1 hlo2 hr _ hnone
    have hq := nearOfPayload_nearPayload (m := m) ⟨hla1, hla2⟩ ⟨hlo1, hlo2⟩ hr
    have hprep : prepareNear la lo radius = none := by
      unfold prepareNear
      split
      · simp_all
      · rfl
    refine (exec_findNear hs tag la lo radius m).trans ?_
    rw [State.takeFindNear, hq, hprep]
    rfl
  · intro r q s hrun hlink hscan
    show Host.Outcome.next (if s.running then s.endScan else s) = _
    rw [if_pos hrun, State.endScan, hlink, hscan]
    rfl

end Sys2Proof.Machine
end

section
/-! The measure and the list of FIND_NEAR (R21, R22), and the state after reset. -/

namespace Sys2Proof.Machine

/-! ## The distance measure -/

theorem natAbs_roundDiv (a : Int) (b : Nat) :
    (roundDiv a b).natAbs = (2 * a.natAbs + b) / (2 * b) := by
  unfold roundDiv
  dsimp only
  split
  · exact (Int.natAbs_neg _).trans (Int.natAbs_natCast _)
  · exact Int.natAbs_natCast _

/-- A rounded quotient has the sign of its dividend. -/
theorem roundDiv_mul_nonneg (a : Int) (b : Nat) : 0 ≤ roundDiv a b * a := by
  unfold roundDiv
  dsimp only
  generalize (2 * a.natAbs + b) / (2 * b) = q
  split
  · exact Int.mul_nonneg_of_nonpos_of_nonpos (by omega) (by omega)
  · exact Int.mul_nonneg (by omega) (by omega)

/-- The rounded dx of R21 part 2. -/
def nearDx (q : NearQuery) (st : Station) : Int :=
  roundDiv (reduceLongitude (st.longitude - q.longitude) * q.cosine) 32768

theorem nearMeasure_eq (q : NearQuery) (st : Station) :
    (nearMeasure q st : Int)
      = nearDx q st * nearDx q st
        + (st.latitude - q.latitude) * (st.latitude - q.latitude) := by
  simp [nearMeasure, nearDx]

/-- A longitude difference of positions in range, reduced by one turn at most. -/
theorem reduceLongitude_range {d : Int} (h1 : -360000000 < d) (h2 : d < 360000000) :
    -180000000 ≤ reduceLongitude d ∧ reduceLongitude d < 180000000 := by
  unfold reduceLongitude
  split
  · omega
  · split <;> omega

theorem nearDx_lt {q : NearQuery} {st : Station}
    (hd : (reduceLongitude (st.longitude - q.longitude)).natAbs ≤ 180000000)
    (hc0 : 0 ≤ q.cosine) (hc1 : q.cosine ≤ 32767) : (nearDx q st).natAbs < 180000000 := by
  have hc : q.cosine.natAbs ≤ 32767 := by omega
  have hmul := Nat.mul_le_mul hd hc
  rw [nearDx, natAbs_roundDiv, Int.natAbs_mul, Nat.div_lt_iff_lt_mul (by decide)]
  omega

theorem nearMeasure_lt {q : NearQuery} {st : Station} (hx : (nearDx q st).natAbs < 180000000)
    (hl : (st.latitude - q.latitude).natAbs ≤ 180000000) :
    nearMeasure q st < 65000000000000000 := by
  have h1 := Nat.mul_le_mul hx.le hx.le
  have h2 := Nat.mul_le_mul hl hl
  unfold nearMeasure
  unfold nearDx at h1
  dsimp only
  omega

/-- At a pole the scale factor is 0 (R21). -/
theorem cosine_of_pole {la : Int} (h : la.natAbs = 90000000) : cosQ15 (binaryAngle la) = 0 := by
  rcases Int.natAbs_eq la with hla | hla <;> rw [hla, h] <;> decide +kernel

/-! ## The result list -/

/-- The order of the result list: by measure, then by slot (R22). -/
def Nearer (a b : Nat × Nat) : Prop := a.2 < b.2 ∨ (a.2 = b.2 ∧ a.1 < b.1)

theorem insertNear_perm (k d : Nat) (l : List (Nat × Nat)) :
    (insertNear k d l).Perm ((k, d) :: l) := by
  induction l with
  | nil => exact .refl _
  | cons e es ih =>
    rw [insertNear]
    split
    · exact .refl _
    · exact (ih.cons e).trans (.swap _ _ _)

/-- A slot above those of the list goes after the entries of its measure. -/
theorem insertNear_pairwise {k d : Nat} {l : List (Nat × Nat)} (hl : l.Pairwise Nearer)
    (hk : ∀ e ∈ l, e.1 < k) : (insertNear k d l).Pairwise Nearer := by
  induction l with
  | nil => exact List.pairwise_singleton _ _
  | cons e es ih =>
    obtain ⟨he, hes⟩ := List.pairwise_cons.1 hl
    rw [insertNear]
    split
    · next hd =>
      refine List.pairwise_cons.2 ⟨fun x hx => .inl ?_, hl⟩
      rcases List.mem_cons.1 hx with rfl | hx
      · exact hd
      · rcases he x hx with h | ⟨h, -⟩
        · exact hd.trans h
        · exact h ▸ hd
    · next hd =>
      refine List.pairwise_cons.2 ⟨fun x hx => ?_,
        ih hes fun x hx => hk x (List.mem_cons_of_mem _ hx)⟩
      rcases List.mem_cons.1 ((insertNear_perm k d es).mem_iff.1 hx) with rfl | hx
      · exact (Nat.lt_or_eq_of_le (Nat.not_lt.1 hd)).imp id fun h => ⟨h, hk e List.mem_cons_self⟩
      · exact he x hx

/-- What does not fit the list does not change what it keeps. -/
theorem take_insertNear_take (k d : Nat) (n : Nat) (l : List (Nat × Nat)) :
    (insertNear k d (l.take n)).take n = (insertNear k d l).take n := by
  induction l generalizing n with
  | nil => simp
  | cons e es ih =>
    cases n with
    | zero => simp
    | succ n =>
      rw [List.take_succ_cons, insertNear, insertNear]
      split
      · cases n <;> simp [List.take_take]
      · rw [List.take_succ_cons, List.take_succ_cons, ih]

/-- The stations a scan takes (R21). -/
def takenStations (q : NearQuery) (t : Table Station) : Table Station :=
  t.filter fun e => decide (nearMeasure q e.2 ≤ q.radius * q.radius)

/-- Stations put into a list one after the other, none left out. -/
def listedAll (q : NearQuery) (l : List (Nat × Nat)) (t : Table Station) : List (Nat × Nat) :=
  t.foldl (fun l e => insertNear e.1 (nearMeasure q e.2) l) l

theorem listedAll_perm (q : NearQuery) (t : Table Station) (l : List (Nat × Nat)) :
    (listedAll q l t).Perm (t.map (fun e => (e.1, nearMeasure q e.2)) ++ l) := by
  induction t generalizing l with
  | nil => exact .refl _
  | cons e t ih =>
    exact (ih _).trans (((insertNear_perm _ _ _).append_left _).trans List.perm_middle)

theorem listedAll_pairwise (q : NearQuery) {t : Table Station} (ht : Table.wf t)
    {l : List (Nat × Nat)} (hl : l.Pairwise Nearer) (hlt : ∀ e ∈ l, ∀ x ∈ t, e.1 < x.1) :
    (listedAll q l t).Pairwise Nearer := by
  induction t generalizing l with
  | nil => exact hl
  | cons e t ih =>
    obtain ⟨he, ht⟩ := List.pairwise_cons.1 ht
    refine ih ht (insertNear_pairwise hl fun x hx => hlt x hx e List.mem_cons_self) ?_
    intro x hx y hy
    rcases List.mem_cons.1 ((insertNear_perm _ _ _).mem_iff.1 hx) with rfl | hx
    · exact he y.1 (List.mem_map_of_mem hy)
    · exact hlt x hx y (List.mem_cons_of_mem _ hy)

/-- The scan counts the stations taken and keeps the first eight of their list. -/
theorem foldl_visit (q : NearQuery) (t : Table Station) (m : Nat) (l : List (Nat × Nat)) :
    t.foldl (NearResult.visit q) ⟨m, l.take 8⟩
      = ⟨m + (takenStations q t).length, (listedAll q l (takenStations q t)).take 8⟩ := by
  induction t generalizing m l with
  | nil => rfl
  | cons e t ih =>
    rw [List.foldl_cons, NearResult.visit]
    by_cases h : nearMeasure q e.2 ≤ q.radius * q.radius
    · have htk : takenStations q (e :: t) = e :: takenStations q t := by simp [takenStations, h]
      simp only [h, if_true, Config.nearestListed, take_insertNear_take, htk]
      rw [ih, List.length_cons, Nat.add_assoc, Nat.add_comm 1]
      rfl
    · have htk : takenStations q (e :: t) = takenStations q t := by simp [takenStations, h]
      simp only [h, if_false, htk]
      exact ih m l

theorem scanStations_eq (q : NearQuery) (t : Table Station) :
    scanStations q t
      = ⟨(takenStations q t).length, (listedAll q [] (takenStations q t)).take 8⟩ := by
  simpa [scanStations] using foldl_visit q t 0 []

theorem mem_listedAll {q : NearQuery} {t : Table Station} {e : Nat × Nat} :
    e ∈ listedAll q [] t ↔ ∃ st, (e.1, st) ∈ t ∧ e.2 = nearMeasure q st := by
  rw [(listedAll_perm q t []).mem_iff, List.append_nil, List.mem_map]
  constructor
  · rintro ⟨x, hx, rfl⟩
    exact ⟨x.2, hx, rfl⟩
  · rintro ⟨st, hx, he⟩
    exact ⟨_, hx, by rw [← he]⟩

/-- Settles O23: the measure by its rounded dx, the pole, and the list as the first eight of all
stations taken, in order. -/
theorem nearestStationsListed : Obligations.NearestStationsListed := by
  refine ⟨fun q st => ?_, fun la lo radius q hq hla => ?_, fun q t ht => ?_⟩
  · have hdx : (nearDx q st).natAbs
        = (2 * (reduceLongitude (st.longitude - q.longitude) * q.cosine).natAbs + 32768) / 65536 :=
      natAbs_roundDiv _ _
    refine ⟨nearDx q st, nearMeasure_eq q st, ?_, ?_, roundDiv_mul_nonneg _ _, ?_⟩
    · rw [hdx]
      exact Nat.mul_div_le _ _
    · rw [hdx]
      exact Nat.lt_mul_div_succ _ (by decide)
    · intro h1 h2 h3 h4 h5 h6 h7 h8
      have hlat : (st.latitude - q.latitude).natAbs ≤ 180000000 := by omega
      have hlon := reduceLongitude_range (d := st.longitude - q.longitude) (by omega) (by omega)
      have hx := nearDx_lt (q := q) (st := st) (by omega) h7 h8
      exact ⟨hlat, hlon.1, hlon.2, hx, nearMeasure_lt hx hlat⟩
  · unfold prepareNear at hq
    split at hq
    · next la' lo' hla' hlo' =>
      cases hq
      have : la' = la := by
        unfold normLatitude at hla'
        split at hla' <;> simp_all
      exact cosine_of_pole (this ▸ hla)
    · cases hq
  · have hwf : Table.wf (takenStations q t) := Table.wf_filter ht _
    have hsorted := listedAll_pairwise q hwf List.Pairwise.nil nofun
    have hlen := (listedAll_perm q (takenStations q t) []).length_eq
    rw [List.append_nil, List.length_map] at hlen
    rw [scanStations_eq]
    refine ⟨rfl, ?_, fun e he => mem_listedAll.1 (List.mem_of_mem_take he),
      hsorted.sublist (List.take_sublist _ _), fun x hx hout e he => ?_⟩
    · rw [List.length_take, hlen]
      rfl
    · have hmem : (x.1, nearMeasure q x.2) ∈ listedAll q [] (takenStations q t) :=
        mem_listedAll.2 ⟨x.2, hx, rfl⟩
      rw [← List.take_append_drop 8 (listedAll q [] (takenStations q t))] at hsorted hmem
      rcases List.mem_append.1 hmem with h | h
      · exact absurd rfl (hout _ h)
      · exact (List.pairwise_append.1 hsorted).2.2 e he _ h

/-! ## The state after reset -/

theorem calibrationTemplate_inRange : calibrationTemplate.inRange := by
  (repeat' apply And.intro) <;> decide

theorem defaultConstituents_inRange : constituentsInRange defaultConstituents := by
  unfold constituentsInRange Constituent.inRange
  decide +kernel

theorem defaultConstants_inRange : defaultConstants.inRange := by
  unfold SurveyConstants.inRange
  decide

theorem reset_coefficientsInRange : State.reset.coefficientsInRange := by
  refine ⟨fun h => ?_, fun h set hs => ?_, defaultConstituents_inRange, defaultConstants_inRange,
    defaultConstituents_inRange, defaultConstants_inRange, calibrationTemplate_inRange⟩
  · exact (get_perHead calibrationTemplate h).symm ▸ calibrationTemplate_inRange
  · cases (get_perHead none h).symm.trans hs

theorem reset_stations : State.reset.stations = [] := rfl
theorem reset_occupations : State.reset.occupations = [] := rfl
theorem reset_loops : State.reset.loops = [] := rfl

theorem reset_timeSound : State.reset.timeSound := by
  refine ⟨fun t ht => ?_, fun sec hs => ?_, fun ha => rfl⟩
  · cases (show State.reset.clock = none from rfl).symm.trans ht
  · cases (show State.reset.pulse.pendingSet = none from rfl).symm.trans hs

theorem reset_marksHaveItems : State.reset.marksHaveItems := by
  rw [State.marksHaveItems, reset_stations, reset_occupations, reset_loops]
  simp

theorem reset_enginesAgree : State.reset.enginesAgree := by
  refine fun _ => .inl ⟨rfl, rfl, fun h => State.engineHolds_of_idle (get_perHead _ h) ?_⟩
  rw [reset_occupations]
  simp

theorem reset_loopsSound : State.reset.loopsSound := by
  rw [State.loopsSound, reset_occupations, reset_loops]
  simp

/-- Settles O60: the stores are empty, the engines IDLE, and the coefficients the defaults. -/
theorem resetMeetsTheInvariants : Obligations.ResetMeetsTheInvariants := by
  refine ⟨State.recordsIndexed_of_empty rfl rfl rfl rfl, List.nodup_nil, reset_coefficientsInRange,
    ?_, fun _ => Nat.zero_le 1, reset_timeSound, reset_marksHaveItems,
    State.chainsAgree_of_empty rfl rfl, reset_enginesAgree, reset_loopsSound⟩
  rw [State.valuesHold, reset_occupations]
  simp

end Sys2Proof.Machine
end

section
/-! EDIT_STATION: its operands read back, its refusals in order, and what it writes (R15 to R17). -/

namespace Sys2Proof.Machine

/-! ## The operands -/

/-- The bits of a presence mask of four operands. -/
theorem presenceMask_bits (a b c d : Bool) :
    let m := BitVec.ofNat 8 (((if a then 1 else 0) + (if b then 2 else 0) + (if c then 4 else 0)
      + (if d then 8 else 0)) / 256 ^ 0)
    m.getLsbD 0 = a ∧ m.getLsbD 1 = b ∧ m.getLsbD 2 = c ∧ m.getLsbD 3 = d := by
  revert a b c d
  decide

/-- An optional operand behind its presence mark. -/
theorem ite_isSome_getD {α : Type} (o : Option α) (d : α) :
    (if o.isSome = true then some (o.getD d) else none) = o := by
  cases o <;> rfl

theorem EditOperands.length_toPayload {o : EditOperands}
    (hn : ∀ raw, o.name = some raw → raw.length ≤ 12 ∧ (0 : Byte) ∉ raw) :
    o.toPayload.length = 24 := by
  have hl : (o.name.getD []).length ≤ 12 := by
    cases h : o.name with
    | none => simp
    | some raw => exact (hn raw h).1
  simp [EditOperands.toPayload, length_nameBytes hl]

theorem fitsInt32_getD {v : Option Int} (h : ∀ x, v = some x → fitsInt32 x) :
    fitsInt32 (v.getD 0) := by
  cases v with
  | none => exact ⟨by decide, by decide⟩
  | some x => exact h x rfl

/-- What EDIT_STATION carries is what its payload was made of (R199). -/
theorem EditOperands.ofPayload_toPayload {o : EditOperands} (hs : o.slot < 65536)
    (hn : ∀ raw, o.name = some raw → raw.length ≤ 12 ∧ (0 : Byte) ∉ raw)
    (hla : ∀ v, o.latitude = some v → fitsInt32 v) (hlo : ∀ v, o.longitude = some v → fitsInt32 v) :
    EditOperands.ofPayload o.toPayload = o := by
  have hname : (o.name.getD []).length ≤ 12 ∧ (0 : Byte) ∉ o.name.getD [] := by
    cases h : o.name with
    | none => simp
    | some raw => exact hn raw h
  have hlen := length_nameBytes hname.1
  have fslot : fieldNat 0 2 o.toPayload = o.slot := by
    simpa [EditOperands.toPayload] using fieldNat_beBytes_append (n := 2) hs _
  have fmask : o.toPayload.getD 2 0 = BitVec.ofNat 8 (o.mask / 256 ^ 0) := by
    simp [EditOperands.toPayload, beBytes]
  have fname : nameField 3 o.toPayload = o.name.getD [] := by
    simpa [EditOperands.toPayload] using
      nameField_append (as := beBytes 2 o.slot ++ beBytes 1 o.mask) (by simp) hname.1 hname.2
  have frole : o.toPayload.getD 15 0 = o.role.getD 0 := by
    simpa [EditOperands.toPayload] using getD_append_cons (at_ := 15) (d := 0)
      (as := beBytes 2 o.slot ++ beBytes 1 o.mask ++ nameBytes (o.name.getD [])) (by simp [hlen])
  have flat : fieldInt 16 4 o.toPayload = o.latitude.getD 0 := by
    simpa [EditOperands.toPayload] using fieldInt32_of (at_ := 16)
      (as := beBytes 2 o.slot ++ beBytes 1 o.mask ++ nameBytes (o.name.getD []) ++ [o.role.getD 0])
      (cs := beSignedBytes 4 (o.longitude.getD 0)) (by simp [hlen]) (fitsInt32_getD hla)
  have flon : fieldInt 20 4 o.toPayload = o.longitude.getD 0 := by
    simpa [EditOperands.toPayload] using fieldInt32_of (at_ := 20)
      (as := beBytes 2 o.slot ++ beBytes 1 o.mask ++ nameBytes (o.name.getD []) ++ [o.role.getD 0]
        ++ beSignedBytes 4 (o.latitude.getD 0)) (cs := []) (by simp [hlen]) (fitsInt32_getD hlo)
  obtain ⟨b0, b1, b2, b3⟩ := presenceMask_bits o.name.isSome o.role.isSome o.latitude.isSome
    o.longitude.isSome
  simp only [EditOperands.ofPayload, fslot, fmask, fname, frole, flat, flon]
  simp only [EditOperands.mask, b0, b1, b2, b3, ite_isSome_getD]

/-! ## The checks -/

theorem EditOperands.fits_of_check {o : EditOperands} {e : StationEdit} (h : o.check = some e) :
    (∀ v, o.latitude = some v → fitsInt32 v) ∧ ∀ v, o.longitude = some v → fitsInt32 v := by
  unfold EditOperands.check at h
  split at h
  · next hla hlo =>
    refine ⟨fun v hv => ?_, fun v hv => ?_⟩
    · rw [hv] at hla
      obtain ⟨w, hw, -⟩ := Option.map_eq_some_iff.1 hla
      exact fitsInt32_of_normLatitude hw
    · rw [hv] at hlo
      obtain ⟨w, hw, -⟩ := Option.map_eq_some_iff.1 hlo
      exact fitsInt32_of_normLongitude hw
  · cases h

theorem State.editNameTaken_iff {s : State} {slot : Nat} {e : StationEdit} :
    s.editNameTaken slot e = true
      ↔ ∃ n, e.name = some n ∧ ∃ x ∈ s.nameIndex, x.2 = n ∧ x.1 ≠ slot := by
  cases he : e.name with
  | none => simp [State.editNameTaken, he]
  | some n => simp [State.editNameTaken, he, State.nameHeld_eq_true]

theorem State.editInUse_iff {s : State} {slot : Nat} {st : Station} {e : StationEdit} :
    s.editInUse slot st e = true
      ↔ e.role = some .field ∧ st.role = .base ∧ ∃ x ∈ s.loops, x.2.base = slot := by
  simp [State.editInUse, State.basesLoop, and_assoc]

section

variable {s : State} {o : EditOperands} {st : Station} {e : StationEdit}
  (hk : o.slot < s.partition.slots) (hg : Table.get s.stations o.slot = some st)

include hk hg

theorem editStation_of_illegal (hc : o.check = none) :
    editStation o s = (s, refusal .badField) := by
  simp only [editStation, State.checkSlot_eq_ok.2 ⟨hk, hg⟩, hc]

variable (hc : o.check = some e)

include hc

theorem editStation_of_taken (hn : s.editNameTaken o.slot e = true) :
    editStation o s = (s, refusal .nameTaken) := by
  simp only [editStation, State.checkSlot_eq_ok.2 ⟨hk, hg⟩, hc, hn, if_true]

theorem editStation_of_inUse (hn : s.editNameTaken o.slot e = false)
    (hu : s.editInUse o.slot st e = true) : editStation o s = (s, refusal .inUse) := by
  simp only [editStation, State.checkSlot_eq_ok.2 ⟨hk, hg⟩, hc, hn, hu, if_true, Bool.false_eq_true,
    if_false]

theorem editStation_of_accepted (hn : s.editNameTaken o.slot e = false)
    (hu : s.editInUse o.slot st e = false) :
    editStation o s
      = (s.applyEdit o.slot st e, done (stationBytes o.slot (st.edited e))) := by
  simp only [editStation, State.checkSlot_eq_ok.2 ⟨hk, hg⟩, hc, hn, hu, Bool.false_eq_true, if_false]

end

/-! ## The request -/

theorem exec_editStation {s : State} (h : s.serves) (tag : Byte) {o : EditOperands}
    (hs : o.slot < 65536) (hn : ∀ raw, o.name = some raw → raw.length ≤ 12 ∧ (0 : Byte) ∉ raw)
    (hla : ∀ v, o.latitude = some v → fitsInt32 v) (hlo : ∀ v, o.longitude = some v → fitsInt32 v) :
    exec (.editStation tag o.toPayload) s
      = .next ((editStation o s.taken).1.respond tag (editStation o s.taken).2) := by
  refine congrArg Host.Outcome.next ((State.request_fixedForm h (n := 24)
    (EditOperands.length_toPayload hn) (by decide) tag
    fun p s => editStation (.ofPayload p) s).trans ?_)
  rw [EditOperands.ofPayload_toPayload hs hn hla hlo]

/-- An accepted edit is applied and answered with the record after it (R16). -/
theorem exec_editStation_of_accepted {s : State} (h : s.serves) (tag : Byte) {o : EditOperands}
    {st : Station} {e : StationEdit}
    (hn : ∀ raw, o.name = some raw → raw.length ≤ 12 ∧ (0 : Byte) ∉ raw)
    (hk : o.slot < s.partition.slots) (hg : Table.get s.stations o.slot = some st)
    (hc : o.check = some e) (ht : s.editNameTaken o.slot e = false)
    (hu : s.editInUse o.slot st e = false) :
    exec (.editStation tag o.toPayload) s = .next ((s.taken.applyEdit o.slot st e).respond tag
      (done (stationBytes o.slot (st.edited e)))) := by
  obtain ⟨hla, hlo⟩ := EditOperands.fits_of_check hc
  rw [exec_editStation h tag (hk.trans s.partition.slots_lt) hn hla hlo,
    editStation_of_accepted (s := s.taken) hk hg hc ht hu]

/-- An edit that moves the station: the coordinate generation goes up (R10). -/
theorem Station.edited_of_moved {st : Station} {e : StationEdit} (h : st.movedBy e = true) :
    st.edited e = { st with
      name := e.name.getD st.name, role := e.role.getD st.role
      latitude := e.latitude.getD st.latitude, longitude := e.longitude.getD st.longitude
      coordGen := st.coordGen + 1 } := by
  rw [Station.edited, if_pos h]

/-- An edit that leaves the stored position alone. -/
theorem Station.edited_of_not_moved {st : Station} {e : StationEdit} (h : st.movedBy e = false) :
    st.edited e = { st with name := e.name.getD st.name, role := e.role.getD st.role } := by
  have hpos := h
  simp only [Station.movedBy, Bool.or_eq_false_iff, bne_eq_false_iff_eq] at hpos
  rw [Station.edited, h, hpos.1, hpos.2]
  rfl

/-- Settles O18: an edit accepted, its refusals in order, and the meaning of two of its checks. -/
theorem editStationWrites : Obligations.EditStationWrites := by
  refine ⟨?_, ?_, fun slot st e s => ⟨State.editNameTaken_iff, State.editInUse_iff⟩⟩
  · intro tag o st e s hs hn hk hg hc ht hu hm
    rw [exec_editStation_of_accepted hs tag hn hk hg hc ht hu, State.applyEdit, hm,
      Station.edited_of_not_moved hm]
    rfl
  · intro tag o s hs hslot hn hfit
    have hrefuses {c : ResponseCode} (hc : editStation o s.taken = (s.taken, refusal c)) :
        s.refuses (.editStation tag o.toPayload) tag c := by
      rw [State.refuses, exec_editStation hs tag hslot hn (fun v hv => hfit v (.inl hv))
        (fun v hv => hfit v (.inr hv)), hc]
      rfl
    refine ⟨⟨fun hlim => hrefuses ?_, fun hlt hg => hrefuses ?_⟩, fun st hk hg =>
      ⟨fun hc => hrefuses (editStation_of_illegal hk hg hc), fun e hc =>
        ⟨fun ht => hrefuses (editStation_of_taken hk hg hc ht),
          fun ht hu => hrefuses (editStation_of_inUse hk hg hc ht hu)⟩⟩⟩
    · rw [editStation, State.checkSlot_of_limit (s := s.taken) hlim]
    · rw [editStation, State.checkSlot_of_free (s := s.taken) hlt hg]

end Sys2Proof.Machine
end

section
/-! The Revision Queue as the requests see it: what joins it, what taking items keeps, and the redos an
edit of the position owes (R17, R134, R136, R140). -/

namespace Sys2Proof.Machine

/-! ## Items join the queue -/

theorem State.mem_revQueue_queueItem {s : State} {i j : RevItem} :
    j ∈ (s.queueItem i).revQueue ↔ j = i ∨ j ∈ s.revQueue := by
  have hq : (s.queueItem i).revQueue
      = if i ∈ s.revQueue then s.revQueue else s.revQueue ++ [i] := by
    obtain ⟨k, n⟩ := i
    cases k <;> rfl
  rw [hq]
  split
  · next hi => exact ⟨.inr, fun h => h.elim (fun e => e ▸ hi) id⟩
  · simp [or_comm]

theorem State.mem_revQueue_queueAll {j : RevItem} (is : List RevItem) :
    ∀ {s : State}, j ∈ (s.queueAll is).revQueue ↔ j ∈ is ∨ j ∈ s.revQueue := by
  induction is with
  | nil => simp [State.queueAll]
  | cons i is ih =>
    intro s
    change j ∈ ((s.queueItem i).queueAll is).revQueue ↔ _
    rw [ih, State.mem_revQueue_queueItem, List.mem_cons, ← or_assoc, or_comm (a := j ∈ is)]

/-- A TIDE_REDO has no mark of its own: only the queue changes. -/
theorem State.queueRedos_frame (ns : List Nat) :
    ∀ s : State, ∃ q, s.queueAll (ns.map fun n => ⟨.tideRedo, n⟩) = { s with revQueue := q } := by
  induction ns with
  | nil => exact fun s => ⟨s.revQueue, rfl⟩
  | cons n ns ih =>
    intro s
    obtain ⟨q, h⟩ := ih (s.queueItem ⟨.tideRedo, n⟩)
    exact ⟨q, h⟩

/-! ## Taking items -/

theorem State.redoing_requestRedoStep (s : State) : s.requestRedoStep.redoing = s.redoing := by
  obtain ⟨t, h⟩ := s.requestRedoStep_frame
  rw [h]
  rfl

theorem State.redoing_takeRedo (s : State) (n : Nat) : (s.takeRedo n).redoing = some n :=
  State.redoing_requestRedoStep _

/-- What each step of taking items keeps, taking them keeps (R136). -/
theorem takeItems_keeps {P : State → Prop}
    (hvalue : ∀ s i rest, s.inFlight = none → s.revQueue = i :: rest → i.kind = .stationValue → P s →
      P ({ s with revQueue := rest }.processStation i.target))
    (hredo : ∀ s i rest, s.inFlight = none → s.revQueue = i :: rest → i.kind = .tideRedo → P s →
      P ({ s with revQueue := rest }.takeRedo i.target))
    (hdefer : ∀ s i rest, s.inFlight = none → s.revQueue = i :: rest → i.kind = .driftApply → P s →
      P { s with revQueue := rest ++ [i] })
    (happly : ∀ s i rest, s.inFlight = none → s.revQueue = i :: rest → i.kind = .driftApply → P s →
      P { s with revQueue := rest, inFlight := some (.driftApply i.target 0) })
    (fuel : Nat) : ∀ s : State, P s → P (takeItems fuel s) := by
  induction fuel with
  | zero => exact fun s hs => hs
  | succ fuel ih =>
    intro s hs
    unfold takeItems
    split
    · next i rest hf hq =>
      dsimp only
      split
      · next hk => exact ih _ (hvalue s i rest hf hq hk hs)
      · next hk => exact hredo s i rest hf hq hk hs
      · next hk =>
        split
        · exact ih _ (hdefer s i rest hf hq hk hs)
        · exact happly s i rest hf hq hk hs
    · exact hs

/-- The engine going on takes items and sets a notice at most (R136, R137). -/
theorem State.revise_cases (b : Bool) (s : State) :
    ∃ n, State.revise b s = { takeItems s.revQueue.length s with notices := n } := by
  unfold State.revise
  dsimp only
  split
  · exact ⟨_, rfl⟩
  · exact ⟨_, rfl⟩

/-! ## Redos owed -/

theorem State.redoing_of_inFlight_none {s : State} (h : s.inFlight = none) : s.redoing = none := by
  simp only [State.redoing, h]

/-- A redo that waits is not lost while items are taken: it waits on, or goes into flight. -/
theorem takeItems_redoOwed {n : Nat} (fuel : Nat) (s : State) :
    s.redoOwed n → (takeItems fuel s).redoOwed n := by
  have waits {s : State} {i : RevItem} {rest : List RevItem} (hf : s.inFlight = none)
      (hq : s.revQueue = i :: rest) (h : s.redoOwed n) : ⟨.tideRedo, n⟩ ∈ i :: rest := by
    rw [State.redoOwed, hq, State.redoing_of_inFlight_none hf] at h
    exact h.resolve_right nofun
  refine takeItems_keeps (P := fun u => u.redoOwed n) ?_ ?_ ?_ ?_ fuel s
  · intro s i rest hf hq hk h
    obtain ⟨st, m, hp⟩ := State.processStation_frame { s with revQueue := rest } i.target
    rw [hp]
    rcases List.mem_cons.1 (waits hf hq h) with rfl | hm
    · cases hk
    · exact .inl hm
  · intro s i rest hf hq hk h
    obtain ⟨f, t, hr⟩ := State.takeRedo_frame { s with revQueue := rest } i.target
    rcases List.mem_cons.1 (waits hf hq h) with rfl | hm
    · exact .inr (State.redoing_takeRedo _ n)
    · exact .inl (by rw [hr]; exact hm)
  · intro s i rest hf hq hk h
    exact .inl (by simpa [or_comm] using waits hf hq h)
  · intro s i rest hf hq hk h
    rcases List.mem_cons.1 (waits hf hq h) with rfl | hm
    · cases hk
    · exact .inl hm

theorem State.redoOwed_revise {s : State} (b : Bool) {n : Nat} (h : s.redoOwed n) :
    (State.revise b s).redoOwed n := by
  obtain ⟨m, hr⟩ := s.revise_cases b
  rw [hr]
  exact takeItems_redoOwed _ s h

/-! ## Marking tide-stale -/

theorem State.markTideStale_loops (s : State) (os : List Nat) :
    (s.markTideStale os).loops = s.loops := by
  choose q h using fun ns s => State.queueRedos_frame ns s
  have hrestart (u : State) : (u.restartRedo os).loops = u.loops := by
    obtain ⟨q, f, t, hu⟩ := u.restartRedo_frame os
    rw [hu]
  rw [State.markTideStale, hrestart, h]

/-- A redo in flight for one of the occupations goes back to the queue. -/
theorem State.redoOwed_restartRedo_of_redoing {s : State} {os : List Nat} {n : Nat} (hn : n ∈ os)
    (h : s.redoing = some n) : (s.restartRedo os).redoOwed n := by
  rw [State.restartRedo, h]
  dsimp only
  rw [if_pos hn]
  exact .inl (State.mem_revQueue_queueItem.2 (.inl rfl))

/-- A restart takes nothing out of the queue. -/
theorem State.mem_revQueue_restartRedo {s : State} (os : List Nat) {j : RevItem}
    (h : j ∈ s.revQueue) : j ∈ (s.restartRedo os).revQueue := by
  unfold State.restartRedo
  split
  · next o _ =>
    split
    · obtain ⟨f, t, hd⟩ := s.dropInFlight_frame
      rw [State.mem_revQueue_queueItem, hd]
      exact .inr h
    · exact h
  · exact h

/-- Each marked occupation's redo waits, one in flight having been restarted (R17, R140). -/
theorem State.redoOwed_markTideStale {s : State} {os : List Nat} {n : Nat} (hn : n ∈ os) :
    (s.markTideStale os).redoOwed n := by
  unfold State.markTideStale
  dsimp only
  by_cases hr : s.redoing = some n
  · refine State.redoOwed_restartRedo_of_redoing hn ?_
    obtain ⟨q, h⟩ := State.queueRedos_frame (os.filter fun o => s.redoing != some o)
      { s with
        occupations := Table.modifyKeys s.occupations os fun o => { o with tideStale := true } }
    rw [h]
    exact hr
  · refine .inl (State.mem_revQueue_restartRedo os ((State.mem_revQueue_queueAll _).2 (.inl ?_)))
    simp [hn, hr]

theorem State.mem_closedOf {s : State} {chain : List Nat} {n : Nat} :
    n ∈ s.closedOf chain
      ↔ n ∈ chain ∧ ∃ o, Table.get s.occupations n = some o ∧ o.state = .closed := by
  cases h : Table.get s.occupations n <;> simp [State.closedOf, h]

/-! ## The edit that moves a station -/

/-- The station's record and its name, written (R16). -/
def State.rewritten (s : State) (k : Nat) (st : Station) : State :=
  { s with stations := Table.put s.stations k st, nameIndex := Table.put s.nameIndex k st.name }

theorem State.applyEdit_of_moved {s : State} {k : Nat} {st : Station} {e : StationEdit}
    (h : st.movedBy e = true) :
    s.applyEdit k st e
      = State.revise s.revisionBusy
          ((s.rewritten k (st.edited e)).markTideStale (s.closedOf st.chain)) :=
  if_pos h

theorem State.applyEdit_of_moved_frame {s : State} {k : Nat} {st : Station} {e : StationEdit}
    (h : st.movedBy e = true) :
    ∃ q f t st' n names, s.applyEdit k st e =
      { s with
        occupations := Table.modifyKeys s.occupations (s.closedOf st.chain)
          fun o => { o with tideStale := true }
        revQueue := q, inFlight := f, tide := t, stations := st', notices := n
        nameIndex := names } := by
  have hl := (s.rewritten k (st.edited e)).markTideStale_loops (s.closedOf st.chain)
  obtain ⟨q, f, t, l, st', hm⟩ :=
    (s.rewritten k (st.edited e)).markTideStale_frame (s.closedOf st.chain)
  obtain ⟨q', f', t', st'', n, hr⟩ := State.revise_frame s.revisionBusy
    ((s.rewritten k (st.edited e)).markTideStale (s.closedOf st.chain))
  rw [hm] at hl hr
  obtain rfl : l = s.loops := hl
  rw [State.applyEdit_of_moved h, hm, hr]
  exact ⟨_, _, _, _, _, _, rfl⟩

/-- Marking and revising leave what an edit wrote in the record. -/
theorem State.get_applyEdit_of_moved {s : State} {k : Nat} {st : Station} {e : StationEdit}
    (h : st.movedBy e = true) :
    ∃ st', Table.get (s.applyEdit k st e).stations k = some st'
      ∧ st'.bare = (st.edited e).bare := by
  rw [State.applyEdit_of_moved h]
  refine ((State.sameRecords_markTideStale _ _).trans
    (State.sameRecords_revise _ _)).symm_station ?_
  rw [State.rewritten, Table.get_put, if_pos rfl]

theorem State.redoOwed_applyEdit {s : State} {k : Nat} {st : Station} {e : StationEdit}
    (h : st.movedBy e = true) {n : Nat} (hn : n ∈ s.closedOf st.chain) :
    (s.applyEdit k st e).redoOwed n := by
  rw [State.applyEdit_of_moved h]
  exact State.redoOwed_revise _ (State.redoOwed_markTideStale hn)

/-- Settles O19: the edit writes the record, marks the CLOSED occupations of the chain and queues or
restarts their redos, and taking items afterwards loses none of them. -/
theorem movedStationMarksItsOccupations : Obligations.MovedStationMarksItsOccupations := by
  intro tag o st e s hs hn hk hg hc ht hu hm
  obtain ⟨q, f, t, sts, n, names, hf⟩ := s.taken.applyEdit_of_moved_frame (k := o.slot) hm
  obtain ⟨st', hst, hbare⟩ := s.taken.get_applyEdit_of_moved (k := o.slot) hm
  rw [Station.edited_of_moved hm] at hbare
  refine ⟨_, exec_editStation_of_accepted hs tag hn hk hg hc ht hu, ?_, ⟨st', hst, ?_⟩, ?_, ?_, ?_⟩
  · rw [Station.edited_of_moved hm]
    rfl
  · exact ⟨(congrArg Station.coordGen hbare :), (congrArg Station.latitude hbare :),
      (congrArg Station.longitude hbare :), (congrArg Station.name hbare :),
      (congrArg Station.role hbare :), (congrArg Station.chain hbare :)⟩
  · intro n oc hnc hoc hcl
    have hmem : n ∈ s.taken.closedOf st.chain := State.mem_closedOf.2 ⟨hnc, oc, hoc, hcl⟩
    refine ⟨?_, State.redoOwed_applyEdit hm hmem⟩
    rw [State.respond_occupations, hf, Table.get_modifyKeys, if_pos hmem]
    exact congrArg _ hoc
  · intro n hnc
    rw [State.respond_occupations, hf, Table.get_modifyKeys]
    exact if_neg hnc
  · rw [hf]
    exact ⟨rfl, rfl, rfl, rfl, rfl, rfl⟩

end Sys2Proof.Machine
end

section
/-! Abandoned loops: what becomes of each record, of the Loop Table and of the queue (R126). -/

namespace Sys2Proof.Machine

/-! ## The terms of one loop withdrawn -/

/-- What abandoning the loop makes of the record of occupation `m`: as member, closer and opener, in
that order (R126 parts 1 to 3). -/
def Loop.withdraw (l : Loop) (m : Nat) (o : Occupation) : Occupation :=
  let asMember := if m ∈ l.members then o.unmembered else o
  let asCloser := if l.closer = some m then asMember.unclosed else asMember
  if m = l.opener then asCloser.unanchored else asCloser

/-- A change of some records alone, as a change of each. -/
theorem ite_map_self {α : Type} (c : Prop) [Decidable c] (f : α → α) (x : Option α) :
    (if c then x.map f else x) = x.map fun a => if c then f a else a := by
  split
  · rfl
  · cases x <;> rfl

theorem State.get_withdrawTerms (s : State) (l : Loop) (m : Nat) :
    Table.get (s.withdrawTerms l).occupations m
      = (Table.get s.occupations m).map (l.withdraw m) := by
  unfold State.withdrawTerms Loop.withdraw
  cases l.closer with
  | none =>
    simp only [State.modifyOccupation, Table.get_modify, Table.get_modifyKeys, ite_map_self,
      reduceCtorEq, if_false]
    cases Table.get s.occupations m <;> rfl
  | some c =>
    simp only [State.modifyOccupation, Table.get_modify, Table.get_modifyKeys, ite_map_self,
      Option.some.injEq, eq_comm (a := c)]
    cases Table.get s.occupations m <;> rfl

theorem Loop.mem_occupants {l : Loop} {m : Nat} :
    m ∈ l.occupants ↔ m = l.opener ∨ l.closer = some m ∨ m ∈ l.members := by
  cases h : l.closer <;> simp [Loop.occupants, h, eq_comm]

theorem Loop.withdraw_of_not_mem {l : Loop} {m : Nat} (h : m ∉ l.occupants) (o : Occupation) :
    l.withdraw m o = o := by
  rw [Loop.mem_occupants, not_or, not_or] at h
  obtain ⟨ho, hc, hm⟩ := h
  rw [Loop.withdraw, if_neg hm, if_neg hc, if_neg ho]

theorem Loop.withdraw_of_member {l : Loop} {m : Nat} (hm : m ∈ l.members) (hc : l.closer ≠ some m)
    (ho : l.opener ≠ m) (o : Occupation) : l.withdraw m o = o.unmembered := by
  rw [Loop.withdraw, if_pos hm, if_neg hc, if_neg ho.symm]

theorem Loop.withdraw_of_closer {l : Loop} {m : Nat} (hc : l.closer = some m) (hm : m ∉ l.members)
    (ho : l.opener ≠ m) (o : Occupation) : l.withdraw m o = o.unclosed := by
  rw [Loop.withdraw, if_neg hm, if_pos hc, if_neg ho.symm]

theorem Loop.withdraw_of_opener {l : Loop} {m : Nat} (ho : l.opener = m) (hm : m ∉ l.members)
    (hc : l.closer ≠ some m) (o : Occupation) : l.withdraw m o = o.unanchored := by
  rw [Loop.withdraw, if_neg hm, if_neg hc, if_pos ho.symm]

/-- An opener keeps its drift loop; only members and the closer lose theirs (R126). -/
theorem Loop.driftLoop_withdraw {l : Loop} {m : Nat} (hm : m ∉ l.members) (hc : l.closer ≠ some m)
    (o : Occupation) : (l.withdraw m o).driftLoop = o.driftLoop := by
  rw [Loop.withdraw, if_neg hm, if_neg hc]
  split
  · unfold Occupation.unanchored
    split <;> rfl
  · rfl

theorem Occupation.unmembered_eq (o : Occupation) :
    o.unmembered = { o with driftLoop := none, drift := none, value := some o.corrected } := by
  simp [Occupation.unmembered, Occupation.revalue, Occupation.corrected]

theorem Occupation.unclosed_eq (o : Occupation) :
    o.unclosed = { o with
      driftLoop := none, drift := if o.anchorsLoop = none then none else some 0
      value := some o.corrected } := by
  cases h : o.anchorsLoop <;> simp [Occupation.unclosed, Occupation.revalue, Occupation.corrected, h]

theorem Occupation.unanchored_eq (o : Occupation) :
    o.unanchored
      = if o.driftLoop = none ∧ o.drift = some 0 ∧ o.driftFrozen = false
        then { o with anchorsLoop := none, drift := none, value := some o.corrected }
        else { o with anchorsLoop := none } := by
  simp [Occupation.unanchored, Occupation.anchorZero, Occupation.revalue, Occupation.corrected,
    and_assoc]

/-! ## One loop abandoned -/

theorem State.abandon_of_free {s : State} {k : Nat} (h : Table.get s.loops k = none) :
    s.abandon k = s := by
  rw [State.abandon, h]

theorem State.occupations_queueAll (is : List RevItem) (s : State) :
    (s.queueAll is).occupations = s.occupations := by
  obtain ⟨q, l, st, h⟩ := State.queueAll_frame is s
  rw [h]

theorem State.occupations_dropApply (s : State) (k : Nat) :
    (s.dropApply k).occupations = s.occupations := by
  obtain ⟨q, f, t, h⟩ := s.dropApply_frame k
  rw [h]

theorem State.get_occupations_abandon {s : State} {k : Nat} {l : Loop}
    (h : Table.get s.loops k = some l) (m : Nat) :
    Table.get (s.abandon k).occupations m
      = (Table.get s.occupations m).map (l.withdraw m) := by
  rw [State.abandon, h]
  dsimp only
  rw [State.queueStationsOf, State.occupations_queueAll, State.occupations_dropApply,
    State.get_withdrawTerms]

/-- A STATION_VALUE marks its station; the loops stay. -/
theorem State.loops_queueStationsOf (s : State) (ns : List Nat) :
    (s.queueStationsOf ns).loops = s.loops := by
  have hl (ks : List Nat) : ∀ u : State,
      (u.queueAll (ks.map fun x => ⟨.stationValue, x⟩)).loops = u.loops := by
    induction ks with
    | nil => exact fun _ => rfl
    | cons x ks ih => exact fun u => ih (u.queueItem ⟨.stationValue, x⟩)
  exact hl _ s

theorem State.get_loops_abandon (s : State) (k j : Nat) :
    Table.get (s.abandon k).loops j = if j = k then none else Table.get s.loops j := by
  cases h : Table.get s.loops k with
  | none =>
    rw [State.abandon_of_free h]
    split
    · next hj => rw [hj, h]
    · rfl
  | some l =>
    obtain ⟨oc, hw⟩ := s.withdrawTerms_frame l
    obtain ⟨q, f, t, hd⟩ := (s.withdrawTerms l).dropApply_frame k
    rw [State.abandon, h]
    dsimp only
    rw [State.loops_queueStationsOf, Table.get_del, hd, hw]

/-- An abandonment takes no STATION_VALUE out of the queue. -/
theorem State.mem_revQueue_abandon {s : State} (k : Nat) {x : Nat}
    (h : ⟨.stationValue, x⟩ ∈ s.revQueue) : ⟨.stationValue, x⟩ ∈ (s.abandon k).revQueue := by
  cases hk : Table.get s.loops k with
  | none =>
    rw [State.abandon_of_free hk]
    exact h
  | some l =>
    rw [State.abandon, hk]
    dsimp only
    rw [State.queueStationsOf, State.mem_revQueue_queueAll]
    right
    obtain ⟨oc, hw⟩ := s.withdrawTerms_frame l
    have hremoved : ⟨.stationValue, x⟩ ∈
        ((s.withdrawTerms l).removeItems fun i => i == ⟨.driftApply, k⟩).revQueue := by
      rw [hw]
      exact List.mem_filter.2 ⟨h, rfl⟩
    unfold State.dropApply
    dsimp only
    split
    · obtain ⟨f, t, hd⟩ := State.dropInFlight_frame
        ((s.withdrawTerms l).removeItems fun i => i == ⟨.driftApply, k⟩)
      rw [hd]
      exact hremoved
    · exact hremoved

/-- Where an abandonment changes D, the station's value is queued (R126 part 5). -/
theorem State.revQueue_abandon_of_drift {s : State} {k m : Nat} {o o' : Occupation}
    (ho : Table.get s.occupations m = some o) (ho' : Table.get (s.abandon k).occupations m = some o')
    (hne : o'.drift ≠ o.drift) : ⟨.stationValue, o.station⟩ ∈ (s.abandon k).revQueue := by
  cases hk : Table.get s.loops k with
  | none =>
    rw [State.abandon_of_free hk, ho] at ho'
    exact absurd (Option.some.inj ho' ▸ rfl) hne
  | some l =>
    rw [State.get_occupations_abandon hk, ho] at ho'
    obtain rfl : l.withdraw m o = o' := Option.some.inj ho'
    have hocc : m ∈ l.occupants := by
      by_contra hn
      exact hne (by rw [Loop.withdraw_of_not_mem hn])
    have hget : Table.get (s.withdrawTerms l).occupations m = some (l.withdraw m o) := by
      rw [State.get_withdrawTerms, ho, Option.map_some]
    have hchanged : m ∈ changedDrift s (s.withdrawTerms l) l.occupants := by
      refine List.mem_filter.2 ⟨hocc, ?_⟩
      simpa [State.driftOf, ho, hget] using Ne.symm hne
    obtain ⟨o₀, ho₀, hplace⟩ := (s.sameRecords_withdrawTerms l).symm_occupation ho
    have hstation : (l.withdraw m o).station = o.station := by
      rw [hget] at ho₀
      exact Option.some.inj ho₀ ▸ congrArg Place.station hplace
    rw [State.abandon, hk]
    dsimp only
    rw [State.queueStationsOf, State.mem_revQueue_queueAll]
    refine .inl (List.mem_map.2 ⟨o.station, List.mem_flatMap.2 ⟨m, hchanged, ?_⟩, rfl⟩)
    rw [State.stationOf, State.occupations_dropApply, hget]
    simp [hstation]

/-! ## Several loops abandoned -/

theorem State.abandonAll_cons (s : State) (k : Nat) (ks : List Nat) :
    s.abandonAll (k :: ks) = (s.abandon k).abandonAll ks := rfl

theorem State.abandonAll_frame (ks : List Nat) :
    ∀ s : State, ∃ oc l q f t st, s.abandonAll ks =
      { s with
        occupations := oc, loops := l, revQueue := q, inFlight := f, tide := t
        stations := st } := by
  induction ks with
  | nil => exact fun s => ⟨_, _, _, _, _, _, rfl⟩
  | cons k ks ih =>
    intro s
    obtain ⟨oc, l, q, f, t, st, h⟩ := s.abandon_frame k
    obtain ⟨oc', l', q', f', t', st', h'⟩ := ih (s.abandon k)
    rw [State.abandonAll_cons, h', h]
    exact ⟨_, _, _, _, _, _, rfl⟩

theorem State.get_loops_abandonAll (ks : List Nat) :
    ∀ (s : State) (j : Nat), Table.get (s.abandonAll ks).loops j
      = if j ∈ ks then none else Table.get s.loops j := by
  induction ks with
  | nil => exact fun s j => rfl
  | cons k ks ih =>
    intro s j
    rw [State.abandonAll_cons, ih, State.get_loops_abandon]
    by_cases hk : j = k <;> by_cases hj : j ∈ ks <;> simp [hk, hj]

/-- What every one of the loops keeps of a record, abandoning them all keeps. -/
theorem State.abandonAll_keeps {P : Option Occupation → Prop} {m : Nat} (ks : List Nat) :
    ∀ s : State,
      (∀ k ∈ ks, ∀ l, Table.get s.loops k = some l → ∀ o, P o → P (o.map (l.withdraw m))) →
      P (Table.get s.occupations m) → P (Table.get (s.abandonAll ks).occupations m) := by
  induction ks with
  | nil => exact fun s _ h => h
  | cons k ks ih =>
    intro s hstep h
    refine ih (s.abandon k) (fun j hj l hl => hstep j (List.mem_cons_of_mem _ hj) l ?_) ?_
    · rw [State.get_loops_abandon] at hl
      split at hl
      · cases hl
      · exact hl
    · cases hk : Table.get s.loops k with
      | none => rwa [State.abandon_of_free hk]
      | some l =>
        rw [State.get_occupations_abandon hk]
        exact hstep k List.mem_cons_self l hk _ h

/-- A record of none of the loops stays as it is. -/
theorem State.get_abandonAll_of_not_mem {s : State} {ks : List Nat} {m : Nat}
    (h : ∀ k ∈ ks, ∀ l, Table.get s.loops k = some l → m ∉ l.occupants) :
    Table.get (s.abandonAll ks).occupations m = Table.get s.occupations m := by
  refine State.abandonAll_keeps (P := fun o => o = Table.get s.occupations m) ks s ?_ rfl
  rintro k hk l hl o rfl
  cases Table.get s.occupations m with
  | none => rfl
  | some o => exact congrArg some (Loop.withdraw_of_not_mem (h k hk l hl) o)

/-- A record of one of the loops alone has that loop's terms withdrawn. -/
theorem State.get_abandonAll_of_mem {j m : Nat} {l : Loop} (ks : List Nat) :
    ∀ {s : State}, j ∈ ks → Table.get s.loops j = some l →
      (∀ k ∈ ks, k ≠ j → ∀ l', Table.get s.loops k = some l' → m ∉ l'.occupants) →
      Table.get (s.abandonAll ks).occupations m
        = (Table.get s.occupations m).map (l.withdraw m) := by
  induction ks with
  | nil => exact fun hj => absurd hj (by simp)
  | cons k ks ih =>
    intro s hj hl hother
    rw [State.abandonAll_cons]
    have hothers {k' : Nat} (hk' : k' ∈ ks) {l' : Loop}
        (hl' : Table.get (s.abandon k).loops k' = some l') (hne : k' ≠ j) : m ∉ l'.occupants := by
      rw [State.get_loops_abandon] at hl'
      split at hl'
      · cases hl'
      · exact hother k' (List.mem_cons_of_mem _ hk') hne l' hl'
    by_cases hjk : j = k
    · subst hjk
      rw [State.get_abandonAll_of_not_mem, State.get_occupations_abandon hl]
      intro k' hk' l' hl'
      refine hothers hk' hl' ?_
      rintro rfl
      rw [State.get_loops_abandon, if_pos rfl] at hl'
      cases hl'
    · have hl' : Table.get (s.abandon k).loops j = some l := by
        rw [State.get_loops_abandon, if_neg hjk, hl]
      rw [ih ((List.mem_cons.1 hj).resolve_left hjk) hl' fun k' hk' hne l' h' => hothers hk' h' hne]
      congr 1
      cases hk : Table.get s.loops k with
      | none => rw [State.abandon_of_free hk]
      | some lk =>
        have hm := hother k List.mem_cons_self (Ne.symm hjk) lk hk
        rw [State.get_occupations_abandon hk]
        cases Table.get s.occupations m with
        | none => rfl
        | some o => exact congrArg some (Loop.withdraw_of_not_mem hm o)

theorem State.mem_revQueue_abandonAll {x : Nat} (ks : List Nat) :
    ∀ {s : State}, ⟨.stationValue, x⟩ ∈ s.revQueue →
      ⟨.stationValue, x⟩ ∈ (s.abandonAll ks).revQueue := by
  induction ks with
  | nil => exact id
  | cons k ks ih => exact fun h => ih (State.mem_revQueue_abandon k h)

/-- A D changed by any of the abandonments has its station's value queued at the end. -/
theorem State.revQueue_abandonAll_of_drift {m : Nat} {o' : Occupation} (ks : List Nat) :
    ∀ {s : State} {o : Occupation}, Table.get s.occupations m = some o →
      Table.get (s.abandonAll ks).occupations m = some o' → o'.drift ≠ o.drift →
      ⟨.stationValue, o.station⟩ ∈ (s.abandonAll ks).revQueue := by
  induction ks with
  | nil =>
    intro s o ho ho' hne
    exact absurd (Option.some.inj (ho'.symm.trans ho) ▸ rfl) hne
  | cons k ks ih =>
    intro s o ho ho' hne
    obtain ⟨o₁, ho₁, hplace⟩ := (s.sameRecords_abandon k).symm_occupation ho
    have hstation : o₁.station = o.station := congrArg Place.station hplace
    by_cases hd : o₁.drift = o.drift
    · rw [← hstation]
      exact ih ho₁ ho' (hd ▸ hne)
    · exact State.mem_revQueue_abandonAll ks (State.revQueue_abandon_of_drift ho ho₁ hd)

end Sys2Proof.Machine
end

section
/-! RETIRE_STATION: the parts of a retirement, and what the engine's going on leaves of them
(R23, R24). -/

namespace Sys2Proof.Machine

/-! ## Leaving the member lists -/

theorem State.occupations_leaveLoop (s : State) (n : Nat) :
    (s.leaveLoop n).occupations = s.occupations := by
  unfold State.leaveLoop
  split
  · next k _ =>
    obtain ⟨l, f, h⟩ := s.removeMember_frame k n
    rw [h]
  · rfl

/-- What leaving loops can change. -/
theorem State.leaveLoops_frame (ns : List Nat) :
    ∀ s : State, ∃ l f, ns.foldl State.leaveLoop s = { s with loops := l, inFlight := f } := by
  induction ns with
  | nil => exact fun s => ⟨_, _, rfl⟩
  | cons n ns ih =>
    intro s
    have hone : ∃ l f, s.leaveLoop n = { s with loops := l, inFlight := f } := by
      unfold State.leaveLoop
      split
      · exact s.removeMember_frame _ n
      · exact ⟨_, _, rfl⟩
    obtain ⟨l, f, h⟩ := hone
    obtain ⟨l', f', h'⟩ := ih (s.leaveLoop n)
    rw [List.foldl_cons, h', h]
    exact ⟨_, _, rfl⟩

theorem State.get_loops_removeMember (s : State) (k n j : Nat) :
    Table.get (s.removeMember k n).loops j
      = if j = k then (Table.get s.loops j).map fun l =>
          { l with members := l.members.filter (· != n) }
        else Table.get s.loops j := by
  unfold State.removeMember
  split
  · next h =>
    split
    · next hj => rw [hj, h, Option.map_none]
    · rfl
  · dsimp only
    have hm := Table.get_modify s.loops k j fun l => { l with members := l.members.filter (· != n) }
    split
    · split
      · exact hm
      · exact hm
    · exact hm

/-- Leaving a loop keeps every loop's base. -/
theorem State.base_of_leaveLoops {j : Nat} {l : Loop} (ns : List Nat) :
    ∀ {s : State}, Table.get (ns.foldl State.leaveLoop s).loops j = some l →
      ∃ l', Table.get s.loops j = some l' ∧ l'.base = l.base := by
  induction ns with
  | nil => exact fun h => ⟨l, h, rfl⟩
  | cons n ns ih =>
    intro s h
    obtain ⟨l₁, h₁, hb₁⟩ := ih h
    unfold State.leaveLoop at h₁
    split at h₁
    · rw [State.get_loops_removeMember] at h₁
      split at h₁
      · obtain ⟨l₀, h₀, rfl⟩ := Option.map_eq_some_iff.1 h₁
        exact ⟨l₀, h₀, hb₁⟩
      · exact ⟨l₁, h₁, hb₁⟩
    · exact ⟨l₁, h₁, hb₁⟩

/-- Each member of the loop has the loop as its drift loop (R114). -/
def State.membersDrift (s : State) (j : Nat) (l : Loop) : Prop :=
  ∀ m ∈ l.members, (Table.get s.occupations m).bind Occupation.driftLoop = some j

/-- An occupation that leaves its loop leaves this one's member list, if it stands there. -/
theorem State.get_loops_leaveLoop {s : State} {j : Nat} {l : Loop} (n : Nat)
    (hl : Table.get s.loops j = some l) (hm : s.membersDrift j l) :
    Table.get (s.leaveLoop n).loops j
      = some { l with members := l.members.filter (· != n) } := by
  unfold State.leaveLoop
  by_cases hn : n ∈ l.members
  · obtain ⟨o, ho, hd⟩ := Option.bind_eq_some_iff.1 (hm n hn)
    have hloop : (Table.get s.occupations n).bind (s.memberLoop n) = some j := by
      simp [ho, State.memberLoop, hd, hl, hn]
    simp only [hloop, State.get_loops_removeMember, if_true, hl, Option.map_some]
  · have hfilter : l.members.filter (· != n) = l.members :=
      List.filter_eq_self.2 fun m hmem => bne_iff_ne.2 fun h => hn (h ▸ hmem)
    rw [hfilter]
    split
    · next k hk =>
      obtain ⟨o, -, hmem⟩ := Option.bind_eq_some_iff.1 hk
      rw [State.get_loops_removeMember, if_neg, hl]
      rintro rfl
      unfold State.memberLoop at hmem
      split at hmem
      · split at hmem
        · next hin =>
          cases hmem
          exact hn (by simpa [hl] using hin)
        · cases hmem
      · cases hmem
    · exact hl

theorem State.get_loops_leaveLoops {j : Nat} (ns : List Nat) :
    ∀ {s : State} {l : Loop}, Table.get s.loops j = some l → s.membersDrift j l →
      Table.get (ns.foldl State.leaveLoop s).loops j
        = some { l with members := l.members.filter fun m => !decide (m ∈ ns) } := by
  induction ns with
  | nil =>
    intro s l hl _
    simpa using hl
  | cons n ns ih =>
    intro s l hl hm
    have hkept : (s.leaveLoop n).membersDrift j
        { l with members := l.members.filter (· != n) } := by
      intro m hmem
      rw [State.occupations_leaveLoop]
      exact hm m (List.mem_filter.1 hmem).1
    rw [List.foldl_cons, ih (State.get_loops_leaveLoop n hl hm) hkept, List.filter_filter]
    congr 3
    funext m
    by_cases h : m = n <;> simp [h]

/-! ## The parts of a retirement -/

/-- The loops based at the station abandoned, and the chain's occupations out of the others (R24 parts 1
and 2). -/
def State.detached (s : State) (slot : Nat) (chain : List Nat) : State :=
  chain.foldl State.leaveLoop (s.abandonAll (s.loopsBasedAt slot))

/-- The items of the station and its occupations withdrawn, waiting or in flight (R24 part 3). -/
def State.disowned (s : State) (slot : Nat) (chain : List Nat) : State :=
  let s' := s.removeItems (targetsStation slot chain)
  if (s'.redoing.map fun o => decide (o ∈ chain)).getD false then s'.dropInFlight else s'

/-- The station, its name and its occupations freed (R24 part 4). -/
def State.vacated (s : State) (slot : Nat) (chain : List Nat) : State :=
  { s with
    occupations := s.occupations.filter fun e => !decide (e.1 ∈ chain)
    nameIndex := Table.del s.nameIndex slot
    stations := Table.del s.stations slot }

theorem State.retire_eq (s : State) (slot : Nat) (chain : List Nat) :
    s.retire slot chain = State.revise s.revisionBusy
      (((s.detached slot chain).disowned slot chain).vacated slot chain) :=
  rfl

/-- No item of the station or of its occupations waits or is in flight (R24 part 3). -/
def State.noItemOf (s : State) (slot : Nat) (chain : List Nat) : Prop :=
  (∀ i ∈ s.revQueue, targetsStation slot chain i = false)
    ∧ ∀ n, s.redoing = some n → n ∉ chain

theorem State.disowned_frame (s : State) (slot : Nat) (chain : List Nat) :
    ∃ f t, s.disowned slot chain =
      { s with
        revQueue := s.revQueue.filter fun i => !targetsStation slot chain i
        inFlight := f, tide := t } := by
  unfold State.disowned
  dsimp only
  split
  · obtain ⟨f, t, h⟩ := (s.removeItems (targetsStation slot chain)).dropInFlight_frame
    exact ⟨f, t, h⟩
  · exact ⟨_, _, rfl⟩

theorem State.noItemOf_disowned (s : State) (slot : Nat) (chain : List Nat) :
    (s.disowned slot chain).noItemOf slot chain := by
  constructor
  · obtain ⟨f, t, h⟩ := s.disowned_frame slot chain
    intro i hi
    rw [h] at hi
    exact Bool.not_eq_true' _ ▸ (List.mem_filter.1 hi).2
  · intro n
    unfold State.disowned
    dsimp only
    split
    · intro h
      rw [State.dropInFlight_eq] at h
      cases h
    · next hin =>
      intro h hn
      exact hin (by simp [h, hn])

theorem State.detached_frame (s : State) (slot : Nat) (chain : List Nat) :
    ∃ l q f t st, s.detached slot chain =
      { s with
        occupations := (s.abandonAll (s.loopsBasedAt slot)).occupations
        loops := l, revQueue := q, inFlight := f, tide := t, stations := st } := by
  obtain ⟨l, f, hl⟩ := State.leaveLoops_frame chain (s.abandonAll (s.loopsBasedAt slot))
  obtain ⟨oc, l', q, f', t, st, ha⟩ := State.abandonAll_frame (s.loopsBasedAt slot) s
  rw [State.detached, hl, ha]
  exact ⟨_, _, _, _, _, rfl⟩

theorem State.retire_frame (s : State) (slot : Nat) (chain : List Nat) :
    ∃ q f t st n, s.retire slot chain =
      { s with
        occupations := (s.abandonAll (s.loopsBasedAt slot)).occupations.filter
          fun e => !decide (e.1 ∈ chain)
        nameIndex := Table.del s.nameIndex slot, loops := (s.detached slot chain).loops
        revQueue := q, inFlight := f, tide := t, stations := st, notices := n } := by
  rw [State.retire_eq]
  obtain ⟨l, q, f, t, st, h⟩ := s.detached_frame slot chain
  generalize s.detached slot chain = u at h ⊢
  obtain ⟨f', t', hd⟩ := u.disowned_frame slot chain
  generalize u.disowned slot chain = v at hd ⊢
  obtain ⟨q', f'', t'', st', n, hr⟩ := State.revise_frame s.revisionBusy (v.vacated slot chain)
  refine ⟨q', f'', t'', st', n, ?_⟩
  rw [hr]
  subst hd
  subst h
  rfl

/-! ## What taking items leaves of them -/

theorem takeItems_noItemOf {slot : Nat} {chain : List Nat} (fuel : Nat) (s : State) :
    s.noItemOf slot chain → (takeItems fuel s).noItemOf slot chain := by
  refine takeItems_keeps (P := fun u => u.noItemOf slot chain) ?_ ?_ ?_ ?_ fuel s
  · intro s i rest hf hq hk ⟨hitems, hredo⟩
    obtain ⟨st, n, hp⟩ := State.processStation_frame { s with revQueue := rest } i.target
    rw [hp]
    exact ⟨fun j hj => hitems j (hq ▸ List.mem_cons_of_mem _ hj), hredo⟩
  · intro s i rest hf hq hk ⟨hitems, hredo⟩
    have hi : i.target ∉ chain := by
      simpa [targetsStation, hk] using hitems i (hq ▸ List.mem_cons_self)
    refine ⟨fun j hj => ?_, fun n hn => ?_⟩
    · obtain ⟨f, t, hr⟩ := State.takeRedo_frame { s with revQueue := rest } i.target
      rw [hr] at hj
      exact hitems j (hq ▸ List.mem_cons_of_mem _ hj)
    · rw [State.redoing_takeRedo] at hn
      exact Option.some.inj hn ▸ hi
  · intro s i rest hf hq hk ⟨hitems, hredo⟩
    refine ⟨fun j hj => hitems j ?_, hredo⟩
    rw [hq]
    simpa [or_comm] using hj
  · intro s i rest hf hq hk ⟨hitems, hredo⟩
    exact ⟨fun j hj => hitems j (hq ▸ List.mem_cons_of_mem _ hj), nofun⟩

theorem State.noItemOf_retire (s : State) (slot : Nat) (chain : List Nat) :
    (s.retire slot chain).noItemOf slot chain := by
  rw [State.retire_eq]
  obtain ⟨n, h⟩ := State.revise_cases s.revisionBusy
    (((s.detached slot chain).disowned slot chain).vacated slot chain)
  rw [h]
  exact takeItems_noItemOf _ _ ((s.detached slot chain).noItemOf_disowned slot chain)

/-- Processing a station's value leaves it as it follows: processing it again changes nothing (R144). -/
theorem State.valueFollows_processStation {s : State} {k : Nat} :
    (s.processStation k).valueFollows k := by
  refine .inr fun st' h' => ?_
  unfold State.processStation at h' ⊢
  split at h'
  · next hk => rw [hk] at h'; cases h'
  · next st hk =>
    have hst : st' = st.processed s.constants.spreadLimit (s.contributing st.chain) := by
      dsimp only at h'
      split at h' <;>
        simpa [State.modifyStation, State.setNotice, Table.get_modify, hk, eq_comm] using h'
    subst hst
    dsimp only
    split <;> rfl

theorem State.get_stations_processStation {s : State} {k j : Nat} (h : j ≠ k) :
    Table.get (s.processStation k).stations j = Table.get s.stations j := by
  unfold State.processStation
  split
  · rfl
  · dsimp only
    split <;> simp [State.modifyStation, State.setNotice, Table.get_modify, h]

/-- The station's value follows in a state with the same records and constants, where its item is not
lost. -/
theorem State.valueFollows_of_kept {s t : State} {k : Nat} (h : s.valueFollows k)
    (hq : ⟨.stationValue, k⟩ ∈ s.revQueue → ⟨.stationValue, k⟩ ∈ t.revQueue)
    (hst : Table.get t.stations k = Table.get s.stations k) (hoc : t.occupations = s.occupations)
    (hc : t.constants = s.constants) : t.valueFollows k := by
  refine h.imp hq fun hv st hg => ?_
  have hcon : t.contributing st.chain = s.contributing st.chain := by
    rw [State.contributing, State.contributing, hoc]
  rw [hc, hcon]
  exact hv st (hst ▸ hg)

theorem takeItems_valueFollows {k : Nat} (fuel : Nat) (s : State) :
    s.valueFollows k → (takeItems fuel s).valueFollows k := by
  have other {i : RevItem} {rest : List RevItem} (hne : i ≠ ⟨.stationValue, k⟩)
      (hm : ⟨.stationValue, k⟩ ∈ i :: rest) : ⟨.stationValue, k⟩ ∈ rest :=
    (List.mem_cons.1 hm).resolve_left (Ne.symm hne)
  refine takeItems_keeps (P := fun u => u.valueFollows k) ?_ ?_ ?_ ?_ fuel s
  · intro s i rest hf hq hk h
    by_cases hi : k = i.target
    · rw [hi]
      exact State.valueFollows_processStation
    · have hst := State.get_stations_processStation (s := { s with revQueue := rest }) hi
      obtain ⟨st, n, hp⟩ := State.processStation_frame { s with revQueue := rest } i.target
      rw [hp] at hst ⊢
      refine State.valueFollows_of_kept h (fun hm => other ?_ (hq ▸ hm)) hst rfl rfl
      rintro rfl
      exact hi rfl
  · intro s i rest hf hq hk h
    obtain ⟨f, t, hr⟩ := State.takeRedo_frame { s with revQueue := rest } i.target
    rw [hr]
    refine State.valueFollows_of_kept h (fun hm => other ?_ (hq ▸ hm)) rfl rfl rfl
    rintro rfl
    cases hk
  · intro s i rest hf hq hk h
    refine State.valueFollows_of_kept h (fun hm => ?_) rfl rfl rfl
    rw [hq] at hm
    simpa [or_comm] using hm
  · intro s i rest hf hq hk h
    refine State.valueFollows_of_kept h (fun hm => other ?_ (hq ▸ hm)) rfl rfl rfl
    rintro rfl
    cases hk

theorem State.valueFollows_revise {s : State} (b : Bool) {k : Nat} (h : s.valueFollows k) :
    (State.revise b s).valueFollows k := by
  obtain ⟨n, hr⟩ := s.revise_cases b
  rw [hr]
  exact takeItems_valueFollows _ s h

/-! ## The retirement, store by store -/

section

variable (s : State) (slot : Nat) (chain : List Nat)

theorem State.get_stations_retire : Table.get (s.retire slot chain).stations slot = none := by
  rw [State.retire_eq]
  by_contra hne
  obtain ⟨st, hst⟩ := Option.ne_none_iff_exists'.1 hne
  obtain ⟨st', hst', -⟩ := (State.sameRecords_revise _ _).get_station hst
  rw [State.vacated, Table.get_del, if_pos rfl] at hst'
  cases hst'

theorem State.get_nameIndex_retire : Table.get (s.retire slot chain).nameIndex slot = none := by
  obtain ⟨q, f, t, st, n, h⟩ := s.retire_frame slot chain
  rw [h, Table.get_del, if_pos rfl]

theorem State.get_occupations_retire (m : Nat) :
    Table.get (s.retire slot chain).occupations m
      = if m ∈ chain then none
        else Table.get (s.abandonAll (s.loopsBasedAt slot)).occupations m := by
  obtain ⟨q, f, t, st, n, h⟩ := s.retire_frame slot chain
  rw [h, Table.get_filterKeys _ fun k => !decide (k ∈ chain)]
  by_cases hm : m ∈ chain <;> simp [hm]

theorem State.loops_retire : (s.retire slot chain).loops = (s.detached slot chain).loops := by
  obtain ⟨q, f, t, st, n, h⟩ := s.retire_frame slot chain
  rw [h]

end

section

variable {s : State} {slot : Nat} {chain : List Nat}

theorem State.base_of_get_loops_retire {j : Nat} {l : Loop}
    (h : Table.get (s.retire slot chain).loops j = some l) : l.base ≠ slot := by
  rw [State.loops_retire] at h
  obtain ⟨l', hl', hb⟩ := State.base_of_leaveLoops chain h
  rw [State.get_loops_abandonAll] at hl'
  split at hl'
  · cases hl'
  · next hj =>
    rintro rfl
    exact hj (List.mem_map.2
      ⟨(j, l'), List.mem_filter.2 ⟨Table.mem_of_get hl', by simp [hb]⟩, rfl⟩)

variable (hwf : Table.wf s.loops)

include hwf

theorem State.mem_loopsBasedAt {j : Nat} :
    j ∈ s.loopsBasedAt slot ↔ ∃ l, Table.get s.loops j = some l ∧ l.base = slot := by
  simp only [State.loopsBasedAt, Table.mem_keysWhere hwf, beq_iff_eq]

/-- A loop based elsewhere keeps all but the chain's occupations among its members (R24 part 2). -/
theorem State.get_loops_retire (hsound : s.loopsSound) {j : Nat} {l : Loop}
    (hl : Table.get s.loops j = some l) (hb : l.base ≠ slot) :
    Table.get (s.retire slot chain).loops j
      = some { l with members := l.members.filter fun n => !decide (n ∈ chain) } := by
  have hj : j ∉ s.loopsBasedAt slot := by
    rw [State.mem_loopsBasedAt hwf]
    rintro ⟨l', hl', hb'⟩
    rw [hl] at hl'
    exact hb (Option.some.inj hl' ▸ hb')
  rw [State.loops_retire, State.detached]
  refine State.get_loops_leaveLoops chain ?_ fun m hm => ?_
  · rw [State.get_loops_abandonAll, if_neg hj, hl]
  · obtain ⟨-, -, hmembers, -⟩ := hsound.1 j l hl
    obtain ⟨o, ho, -, hd⟩ := hmembers m hm
    have hleft {k : Nat} (hk : k ∈ s.loopsBasedAt slot) {lk : Loop}
        (hlk : Table.get s.loops k = some lk) : m ∉ lk.members ∧ lk.closer ≠ some m := by
      have hkj : o.driftLoop ≠ some k := by
        rw [hd]
        rintro ⟨⟩
        exact hj hk
      obtain ⟨-, hclosers, hmembers, -⟩ := hsound.1 k lk hlk
      refine ⟨fun hmem => ?_, fun hclo => ?_⟩
      · obtain ⟨o', ho', -, hd'⟩ := hmembers m hmem
        exact hkj (Option.some.inj (ho.symm.trans ho') ▸ hd')
      · obtain ⟨o', ho', -, hd', -⟩ := hclosers m hclo
        exact hkj (Option.some.inj (ho.symm.trans ho') ▸ hd')
    refine State.abandonAll_keeps (P := fun x => x.bind Occupation.driftLoop = some j)
      (s.loopsBasedAt slot) s (fun k hk lk hlk x hx => ?_) (by simp [ho, hd])
    obtain ⟨hmem, hclo⟩ := hleft hk hlk
    cases x with
    | none => exact hx
    | some o' => exact (Loop.driftLoop_withdraw hmem hclo o').trans hx

/-- An occupation that stays and belongs to no abandoned loop is as it was. -/
theorem State.get_occupations_retire_of_not_mem {m : Nat} (hm : m ∉ chain)
    (h : ∀ j l, Table.get s.loops j = some l → l.base = slot → m ∉ l.occupants) :
    Table.get (s.retire slot chain).occupations m = Table.get s.occupations m := by
  rw [State.get_occupations_retire, if_neg hm, State.get_abandonAll_of_not_mem]
  intro k hk l hl
  obtain ⟨l', hl', hb⟩ := (State.mem_loopsBasedAt hwf).1 hk
  rw [hl] at hl'
  exact h k l hl (Option.some.inj hl' ▸ hb)

/-- An occupation that stays, of one abandoned loop alone, loses that loop's terms (R126). -/
theorem State.withdrawnFrom_retire {j m : Nat} {l : Loop} (hl : Table.get s.loops j = some l)
    (hb : l.base = slot) (hm : m ∉ chain)
    (hother : ∀ j' l', j' ≠ j → Table.get s.loops j' = some l' → l'.base = slot →
      m ∉ l'.occupants) :
    s.withdrawnFrom (s.retire slot chain) l m := by
  intro o ho
  have hget : Table.get (s.retire slot chain).occupations m = some (l.withdraw m o) := by
    rw [State.get_occupations_retire, if_neg hm, State.get_abandonAll_of_mem _
      ((State.mem_loopsBasedAt hwf).2 ⟨l, hl, hb⟩) hl, ho, Option.map_some]
    intro k hk hne l' hl'
    obtain ⟨l'', hl'', hb''⟩ := (State.mem_loopsBasedAt hwf).1 hk
    rw [hl'] at hl''
    exact hother k l' hne hl' (Option.some.inj hl'' ▸ hb'')
  refine ⟨fun hmem hclo hop => ?_, fun hclo hmem hop => ?_, fun hop hmem hclo => ?_⟩
  · rw [hget, Loop.withdraw_of_member hmem hclo hop, Occupation.unmembered_eq]
  · rw [hget, Loop.withdraw_of_closer hclo hmem hop, Occupation.unclosed_eq]
  · rw [hget, Loop.withdraw_of_opener hop hmem hclo, Occupation.unanchored_eq]

omit hwf

/-- A value queued by the abandonments follows, unless it is the retired station's own. -/
theorem State.valueFollows_retire {x : Nat}
    (h : ⟨.stationValue, x⟩ ∈ (s.abandonAll (s.loopsBasedAt slot)).revQueue) :
    (s.retire slot chain).valueFollows x := by
  by_cases hx : x = slot
  · refine .inr fun st hst => ?_
    rw [hx, State.get_stations_retire] at hst
    cases hst
  · rw [State.retire_eq]
    refine State.valueFollows_revise _ (.inl ?_)
    obtain ⟨l, f, hl⟩ := State.leaveLoops_frame chain (s.abandonAll (s.loopsBasedAt slot))
    obtain ⟨f', t, hd⟩ := (s.detached slot chain).disowned_frame slot chain
    rw [State.vacated, hd, State.detached, hl]
    exact List.mem_filter.2 ⟨h, by simpa [targetsStation] using hx⟩

/-- Of the occupations that stay, one whose D changed has its station's value formed anew (R126
part 5). -/
theorem State.changedTermsFollow_retire :
    s.changedTermsFollow (s.retire slot chain) fun m => m ∉ chain := by
  intro m o o' hm ho ho' hne
  rw [State.get_occupations_retire, if_neg hm] at ho'
  exact State.valueFollows_retire (State.revQueue_abandonAll_of_drift _ ho ho' hne)

end

/-! ## The request -/

theorem exec_retireStation {s : State} (h : s.serves) (tag : Byte) {k : Nat} (hk : k < 65536) :
    exec (.retireStation tag (beBytes 2 k)) s
      = .next ((retireStation k s.taken).1.respond tag (retireStation k s.taken).2) := by
  refine congrArg Host.Outcome.next ((State.request_fixedForm h (n := 2) (by simp) (by decide) tag
    fun p s => retireStation (fieldNat 0 2 p) s).trans ?_)
  have hfield : fieldNat 0 2 (beBytes 2 k) = k := by
    simpa using fieldNat_beBytes_append (n := 2) hk []
  rw [hfield]

theorem refuses_retireStation {s : State} (h : s.serves) (tag : Byte) {k : Nat} (hk : k < 65536)
    {c : ResponseCode} (hc : retireStation k s.taken = (s.taken, refusal c)) :
    s.refuses (.retireStation tag (beBytes 2 k)) tag c := by
  rw [State.refuses, exec_retireStation h tag hk, hc]
  rfl

section

variable {s : State} {k : Nat} {st : Station}

theorem retireStation_of_get (hk : k < s.partition.slots) (hg : Table.get s.stations k = some st)
    (ho : s.chainOpen st.chain = false) :
    retireStation k s = (s.retire k st.chain,
      done (beBytes 2 st.chain.length ++ beBytes 2 (s.loopsBasedAt k).length)) := by
  simp only [retireStation, State.checkSlot_eq_ok.2 ⟨hk, hg⟩, ho, Bool.false_eq_true, if_false]

theorem retireStation_of_open (hk : k < s.partition.slots) (hg : Table.get s.stations k = some st)
    (ho : s.chainOpen st.chain = true) : retireStation k s = (s, refusal .busy) := by
  simp only [retireStation, State.checkSlot_eq_ok.2 ⟨hk, hg⟩, ho, if_true]

end

/-- Settles O20: a retirement store by store, and its refusals. -/
theorem retirementFreesEverything : Obligations.RetirementFreesEverything := by
  refine ⟨fun tag k st s hs hk hg ho => ?_, fun tag k s hs hk => ⟨⟨fun hlim => ?_, fun hlt hg => ?_⟩,
    fun st n o hlt hg hn hno hopen => ?_⟩⟩
  · have hnone := s.taken.noItemOf_retire k st.chain
    obtain ⟨q, f, t, sts, n, hframe⟩ := s.taken.retire_frame k st.chain
    refine ⟨(s.taken.retire k st.chain).respond tag
      (done (beBytes 2 st.chain.length ++ beBytes 2 (s.loopsBasedAt k).length)), ?_, rfl,
      s.taken.get_stations_retire k st.chain, s.taken.get_nameIndex_retire k st.chain,
      fun n hn => ?_, fun n l hl => State.base_of_get_loops_retire (s := s.taken) hl, hnone.1, hnone.2,
      fun hwf hsound j l hl hb => State.get_loops_retire (s := s.taken) hwf hsound hl hb,
      fun hwf => ⟨fun j l m hl hb hm hother =>
        State.withdrawnFrom_retire (s := s.taken) hwf hl hb hm hother,
        fun m hm h => State.get_occupations_retire_of_not_mem (s := s.taken) hwf hm h,
        State.changedTermsFollow_retire (s := s.taken)⟩, ?_⟩
    · rw [exec_retireStation hs tag (hk.trans s.partition.slots_lt),
        retireStation_of_get (s := s.taken) hk hg ho]
      rfl
    · rw [State.respond_occupations, State.get_occupations_retire, if_pos hn]
    · rw [hframe]
      exact ⟨rfl, rfl, rfl, rfl, rfl⟩
  · refine refuses_retireStation hs tag hk ?_
    rw [retireStation, State.checkSlot_of_limit (s := s.taken) hlim]
  · refine refuses_retireStation hs tag hk ?_
    rw [retireStation, State.checkSlot_of_free (s := s.taken) hlt hg]
  · refine refuses_retireStation hs tag hk (retireStation_of_open (s := s.taken) hlt hg ?_)
    exact List.any_eq_true.2 ⟨n, hn, by simp [State.taken, hno, hopen]⟩

end Sys2Proof.Machine
end

section
/-! The unit reads: READ_HEAD, READ_STATUS, READ_TIME, READ_CALIBRATION and READ_CONSTITUENT, as they are
served and answered (R41, R110, R160, R168, R193). -/

namespace Sys2Proof

/-- A head's number is received as the head. -/
@[simp] theorem Head.ofCode_code (h : Head) : Head.ofCode (BitVec.ofNat 8 h.code) = some h := by
  cases h <;> rfl

theorem Head.ofCode_eq_none {b : Byte} : Head.ofCode b = none ↔ 3 < b.toNat := by
  unfold Head.ofCode
  split <;> simp_all
  omega

end Sys2Proof

namespace Sys2Proof.Machine

/-! ## The requests -/

theorem beBytes_one (n : Nat) : beBytes 1 n = [BitVec.ofNat 8 n] := by
  simp [beBytes]

section

variable {s : State} (h : s.serves) {m : Nat} (hm : m < 65536) (tag : Byte)

include h hm

theorem exec_readHead (code : Byte) :
    exec (.readHead tag ([code] ++ beBytes 2 m)) s
      = .next (s.answeredAs s.statusByte tag (cut m (readHead code s))) :=
  congrArg Host.Outcome.next (State.request_readForm h (n := 3) rfl (by decide) hm tag
    fun p s => readHead (p.getD 0 0) s)

theorem exec_readStatus :
    exec (.readStatus tag (beBytes 2 m)) s
      = .next (s.answeredAs s.statusByte tag (cut m (done s.statusBytes))) :=
  congrArg Host.Outcome.next (State.request_readForm h (n := 2) (p := []) rfl (by decide) hm tag
    fun _ s => done s.statusBytes)

theorem exec_readTime :
    exec (.readTime tag (beBytes 2 m)) s
      = .next (s.answeredAs s.statusByte tag (cut m (done s.timeAnswerBytes))) :=
  congrArg Host.Outcome.next (State.request_readForm h (n := 2) (p := []) rfl (by decide) hm tag
    fun _ s => done s.timeAnswerBytes)

theorem exec_readCalibration (code which : Byte) :
    exec (.readCalibration tag ([code, which] ++ beBytes 2 m)) s
      = .next (s.answeredAs s.statusByte tag (cut m (readCalibration code which s))) :=
  congrArg Host.Outcome.next (State.request_readForm h (n := 4) rfl (by decide) hm tag
    fun p s => readCalibration (p.getD 0 0) (p.getD 1 0) s)

theorem exec_readConstituent {i : Nat} (hi : i < 256) :
    exec (.readConstituent tag (beBytes 1 i ++ beBytes 2 m)) s
      = .next (s.answeredAs s.statusByte tag (cut m (readConstituent i s))) := by
  refine congrArg Host.Outcome.next ((State.request_readForm h (n := 3) (by simp) (by decide) hm tag
    fun p s => readConstituent (fieldNat 0 1 p) s).trans ?_)
  rw [fieldNat_beBytes_append hi]
  rfl

end

/-! ## Their answers -/

section

variable {s : State} {code which : Byte}

theorem readHead_code (h : Head) : readHead (BitVec.ofNat 8 h.code) s = done (s.headBytes h) := by
  rw [readHead, Head.ofCode_code]

theorem readHead_of_limit (hc : 3 < code.toNat) : readHead code s = refusal .badField := by
  rw [readHead, Head.ofCode_eq_none.2 hc]

theorem readCalibration_active (h : Head) :
    readCalibration (BitVec.ofNat 8 h.code) 0 s
      = done (s.calibrationAnswerBytes h (s.active.get h)) := by
  rw [readCalibration, Head.ofCode_code]
  rfl

theorem readCalibration_staged {h : Head} {set : CalibrationSet} (hs : s.staged.get h = some set) :
    readCalibration (BitVec.ofNat 8 h.code) 1 s = done (s.calibrationAnswerBytes h set) := by
  have hask : s.askedSet h 1 = .ok set := by simp [State.askedSet, hs]
  rw [readCalibration, Head.ofCode_code]
  simp only [hask]

theorem readCalibration_of_unstaged {h : Head} (hs : s.staged.get h = none) :
    readCalibration (BitVec.ofNat 8 h.code) 1 s = refusal .notFound := by
  have hask : s.askedSet h 1 = .error .notFound := by simp [State.askedSet, hs]
  rw [readCalibration, Head.ofCode_code]
  simp only [hask]

theorem State.askedSet_of_limit (h : Head) (hw : 1 < which.toNat) :
    s.askedSet h which = .error .badField := by
  unfold State.askedSet
  split
  · omega
  · omega
  · rfl

theorem readCalibration_of_limit (hc : 3 < code.toNat ∨ 1 < which.toNat) :
    readCalibration code which s = refusal .badField := by
  unfold readCalibration
  split
  · rfl
  · next h hh =>
    have hcode : ¬3 < code.toNat := fun hlim => by simp [Head.ofCode_eq_none.2 hlim] at hh
    rw [State.askedSet_of_limit h (hc.resolve_left hcode)]

theorem readConstituent_of_get {i : Nat} {c : Constituent} (hc : s.constituents[i]? = some c) :
    readConstituent i s = done (constituentAnswerBytes i c s.tableGen) := by
  rw [readConstituent, hc]

theorem readConstituent_of_limit {i : Nat} (hi : s.constituents.length ≤ i) :
    readConstituent i s = refusal .badField := by
  rw [readConstituent, List.getElem?_eq_none hi]

end

/-- Settles O15, clause by clause: each read's answer is its owner's, cut. -/
theorem unitReadsAnswered : Obligations.UnitReadsAnswered := by
  intro tag m s hs hm
  refine ⟨fun h => ?_, exec_readStatus hs hm tag, exec_readTime hs hm tag, fun h => ?_,
    fun h set hset => ?_, fun i c hi hc => ?_, fun code hc => ?_, fun code which hc => ?_,
    fun h hnone => ?_, fun i hlim hi hlen => ?_⟩
  · rw [beBytes_one, exec_readHead hs hm tag, readHead_code, cut_done]
  · rw [beBytes_one, List.singleton_append, exec_readCalibration hs hm tag, readCalibration_active,
      cut_done]
  · rw [beBytes_one, List.singleton_append, exec_readCalibration hs hm tag,
      readCalibration_staged hset, cut_done]
  · rw [exec_readConstituent hs hm tag hi, readConstituent_of_get hc, cut_done]
  · rw [State.refuses, exec_readHead hs hm tag, readHead_of_limit hc, cut_refusal]
  · rw [State.refuses, exec_readCalibration hs hm tag, readCalibration_of_limit hc, cut_refusal]
  · rw [State.refuses, beBytes_one, List.singleton_append, exec_readCalibration hs hm tag,
      readCalibration_of_unstaged hnone, cut_refusal]
  · rw [State.refuses, exec_readConstituent hs hm tag hi, readConstituent_of_limit (by omega),
      cut_refusal]

end Sys2Proof.Machine
end

section
/-! An occupation failed, and HEAD_RESET (R40, R65, R106). -/

namespace Sys2Proof.Machine

/-! ## Failing -/

theorem State.withdraw_eq (s : State) (src : TideSource) :
    s.withdraw src = { s with tide := (s.withdraw src).tide } := by
  obtain ⟨t, ht⟩ := s.withdraw_frame src
  rw [ht]

theorem State.withdraw_of_empty {s : State} {src : TideSource} (h : s.tide.slot src = .empty) :
    s.withdraw src = s := by
  rw [State.withdraw, h]

@[simp] theorem State.withdraw_tide_setChannel (s : State) (h : Head) (c : Channel)
    (src : TideSource) : ((s.setChannel h c).withdraw src).tide = (s.withdraw src).tide :=
  State.withdraw_tide_congr (s.setChannel_tide h c) src

@[simp] theorem State.withdraw_tide_taken (s : State) (src : TideSource) :
    (s.taken.withdraw src).tide = (s.withdraw src).tide :=
  State.withdraw_tide_congr s.taken_tide src

theorem State.failOccupation_of_idle {s : State} {h : Head}
    (hw : (s.engines.get h).session? = none) (c : FailCause) : s.failOccupation h c = s := by
  rw [State.failOccupation, hw]

/-- What a failure leaves is what R65 lists, and the head's request is withdrawn. -/
theorem State.failedTo_failOccupation {s : State} {h : Head} {w : Session}
    (hw : (s.engines.get h).session? = some w) (c : FailCause) :
    s.failedTo (s.failOccupation h c) h w c := by
  have htide := State.withdraw_tide_congr (s := s)
    (t := s.modifyOccupation w.occupation fun o => { o with state := .failed c }) rfl (.head h)
  have heq : s.failOccupation h c = { s with
      occupations := Table.modify s.occupations w.occupation fun o => { o with state := .failed c }
      engines := s.engines.set h .idle
      notices := s.notices ||| (Notice.occEnded h).flag
      tide := (s.withdraw (.head h)).tide } := by
    rw [State.failOccupation, hw]
    dsimp only
    rw [State.withdraw_eq, htide]
    rfl
  refine ⟨heq, ?_⟩
  rw [heq]
  exact s.withdraw_slot (.head h)

/-! ## HEAD_RESET -/

/-- With an OPEN occupation the failure has emptied the head's slot already. -/
theorem State.resetHead_of_session {s : State} {h : Head} {w : Session}
    (hw : (s.engines.get h).session? = some w) :
    s.resetHead h = (s.setChannel h .reset).failOccupation h .headReset :=
  State.withdraw_of_empty
    (State.failedTo_failOccupation (s := s.setChannel h .reset) hw .headReset).2

theorem State.resetHead_of_idle {s : State} {h : Head} (hw : (s.engines.get h).session? = none) :
    s.resetHead h = { s with
      channels := s.channels.set h .reset
      tide := (s.withdraw (.head h)).tide } := by
  rw [State.resetHead, State.failOccupation_of_idle (s := s.setChannel h .reset) hw,
    State.withdraw_eq, State.withdraw_tide_setChannel]
  rfl

theorem State.resetHead_failedTo {s : State} {h : Head} {w : Session}
    (hw : (s.engines.get h).session? = some w) :
    (s.setChannel h .reset).failedTo (s.resetHead h) h w .headReset := by
  rw [State.resetHead_of_session hw]
  exact State.failedTo_failOccupation (s := s.setChannel h .reset) hw .headReset

theorem State.resetHead_slot (s : State) (h : Head) :
    (s.resetHead h).tide.headSlots.get h = .empty :=
  State.withdraw_slot _ (.head h)

theorem State.resetHead_channels (s : State) (h : Head) :
    (s.resetHead h).channels = s.channels.set h .reset := by
  cases hw : (s.engines.get h).session? with
  | none => rw [State.resetHead_of_idle hw]
  | some w => rw [(State.resetHead_failedTo hw).1]; rfl

/-- The link plays no part in a reset of a head. -/
theorem State.resetHead_taken_respond (s : State) (h : Head) (tag : Byte) (a : Answer) :
    (s.taken.resetHead h).respond tag a = (s.resetHead h).answeredAs s.statusByte tag a := by
  cases hw : (s.engines.get h).session? with
  | none =>
    rw [State.resetHead_of_idle hw, State.resetHead_of_idle (s := s.taken) hw,
      State.withdraw_tide_taken]
    rfl
  | some w =>
    rw [(State.resetHead_failedTo hw).1, (State.resetHead_failedTo (s := s.taken) hw).1,
      State.withdraw_tide_setChannel, State.withdraw_tide_setChannel, State.withdraw_tide_taken]
    rfl

theorem exec_headReset {s : State} (h : s.serves) (tag code : Byte) :
    exec (.headReset tag [code]) s
      = .next ((headReset code s.taken).1.respond tag (headReset code s.taken).2) :=
  congrArg Host.Outcome.next (State.request_fixedForm h (n := 1) rfl (by decide) tag
    fun p s => headReset (p.getD 0 0) s)

/-- Settles O37: the reset of a head with an OPEN occupation is that occupation's failure, and without
one touches the channel and the slot alone. -/
theorem headResetClearsTheChannel : Obligations.HeadResetClearsTheChannel := by
  intro tag s hs
  refine ⟨fun code hc => ?_, fun h => ⟨s.resetHead h, ?_, s.resetHead_channels h, s.resetHead_slot h,
    fun w hw => State.resetHead_failedTo hw, State.resetHead_of_idle⟩⟩
  · rw [exec_headReset hs, headReset, Head.ofCode_eq_none.2 hc]
    rfl
  · rw [beBytes_one h.code, exec_headReset hs, headReset, Head.ofCode_code]
    exact congrArg Host.Outcome.next (s.resetHead_taken_respond h tag _)

end Sys2Proof.Machine
end

section
/-! Characters on a head line: the search for the sync pair, the bytes of a frame held, frames broken
off, and the head timeout (R27 to R30, R33). -/

namespace Sys2Proof.Machine

theorem PerHead.set_set {α : Type} (p : PerHead α) (h : Head) (a b : α) :
    (p.set h a).set h b = p.set h b := by
  cases h <;> rfl

theorem State.whenRunning_of_running {s : State} (h : s.running = true) (act : State → State) :
    s.whenRunning act = act s := by
  rw [State.whenRunning, if_pos h]

theorem channelCount_eq_min (n k : Nat) : channelCount n k = min (n + k) 4294967295 :=
  countUp_eq_min _ _ _

theorem recordCount_eq_min (n k : Nat) : recordCount n k = min (n + k) 65535 :=
  countUp_eq_min _ _ _

/-! ## The receiver -/

theorem Receiver.take_of_hunting {r : Receiver} (h : r.phase = .hunting) (b : Byte) :
    r.take b = if r.held = [0xE5] ∧ b = 0x1B then ⟨.collecting, [0xE5, 0x1B]⟩
      else if b = 0xE5 then ⟨.hunting, [0xE5]⟩ else ⟨.hunting, []⟩ := by
  rw [Receiver.take, h]
  rfl

theorem Receiver.take_of_collecting {r : Receiver} (h : r.phase = .collecting) (b : Byte) :
    r.take b = ⟨.collecting, r.held ++ [b]⟩ := by
  rw [Receiver.take, h]

/-- Out of HUNTING no more than the sync pair is held. -/
theorem Receiver.length_take_of_hunting {r : Receiver} (h : r.phase = .hunting) (b : Byte) :
    (r.take b).held.length ≤ 2 := by
  rw [Receiver.take_of_hunting h]
  split
  · decide
  · split <;> decide

/-! ## A character taken into the channel -/

/-- The state with a receiver on head `h` that has just taken a character. -/
def State.holding (s : State) (h : Head) (r : Receiver) : State :=
  s.setChannel h { s.channels.get h with receiver := r, lastCharacter := some s.timeBase }

@[simp] theorem State.holding_receiver (s : State) (h : Head) (r : Receiver) :
    ((s.holding h r).channels.get h).receiver = r := by
  simp [State.holding]

@[simp] theorem State.holding_holding (s : State) (h : Head) (r r' : Receiver) :
    (s.holding h r).holding h r' = s.holding h r' := by
  simp [State.holding, State.setChannel, PerHead.set_set]

/-- Short of fourteen bytes a character is held and nothing is checked (R28). -/
theorem State.receiveCharacter_of_short {s : State} {h : Head} {b : Byte}
    (hl : ((s.channels.get h).receiver.take b).held.length < 14) :
    s.receiveCharacter h b = s.holding h ((s.channels.get h).receiver.take b) :=
  if_neg fun hc => absurd hc.2 (Nat.not_le.2 hl)

/-- The fourteenth byte has the frame checked (R28, R30). -/
theorem State.receiveCharacter_of_complete {s : State} {h : Head} {held : List Byte}
    (hr : (s.channels.get h).receiver = ⟨.collecting, held⟩) (hl : held.length = 13) (b : Byte) :
    s.receiveCharacter h b
      = (s.holding h ⟨.collecting, held ++ [b]⟩).checkFrame h (held ++ [b]) := by
  have htake : (s.channels.get h).receiver.take b = ⟨.collecting, held ++ [b]⟩ := by
    rw [hr, Receiver.take_of_collecting rfl]
  unfold State.receiveCharacter
  dsimp only
  rw [htake, if_pos ⟨rfl, by simp [hl, Config.headFrameLength]⟩]
  rfl

theorem State.receiveCharacter_of_hunting {s : State} {h : Head}
    (hp : (s.channels.get h).receiver.phase = .hunting) (b : Byte) :
    s.receiveCharacter h b = s.holding h ((s.channels.get h).receiver.take b) :=
  State.receiveCharacter_of_short
    (lt_of_le_of_lt (Receiver.length_take_of_hunting hp b) (by decide))

theorem State.receiveCharacter_of_collecting {s : State} {h : Head}
    (hp : (s.channels.get h).receiver.phase = .collecting)
    (hl : (s.channels.get h).receiver.held.length < 13) (b : Byte) :
    s.receiveCharacter h b
      = s.holding h ⟨.collecting, (s.channels.get h).receiver.held ++ [b]⟩ := by
  have htake := Receiver.take_of_collecting hp b
  rw [State.receiveCharacter_of_short (by rw [htake]; simp; omega), htake]

/-- Bytes that do not yet complete a frame are held in the order they come (R28). -/
theorem State.foldl_receiveCharacter_holding (h : Head) (bs : List Byte) :
    ∀ (s : State) (held : List Byte), held.length + bs.length < 14 →
      bs.foldl (fun x b => x.receiveCharacter h b) (s.holding h ⟨.collecting, held⟩)
        = s.holding h ⟨.collecting, held ++ bs⟩ := by
  induction bs with
  | nil => simp
  | cons b bs ih =>
    intro s held hl
    rw [List.length_cons] at hl
    have hstep : (s.holding h ⟨.collecting, held⟩).receiveCharacter h b
        = s.holding h ⟨.collecting, held ++ [b]⟩ := by
      rw [State.receiveCharacter_of_collecting (by simp) (by simp; omega)]
      simp
    rw [List.foldl_cons, hstep, ih s (held ++ [b]) (by simp; omega), List.append_assoc,
      List.singleton_append]

/-- The sync pair begins a frame (R28). -/
theorem State.receive_sync_pair {s : State} {h : Head}
    (hr : (s.channels.get h).receiver = ⟨.hunting, []⟩) :
    (s.receiveCharacter h 0xE5).receiveCharacter h 0x1B
      = s.holding h ⟨.collecting, [0xE5, 0x1B]⟩ := by
  have hfirst : s.receiveCharacter h 0xE5 = s.holding h ⟨.hunting, [0xE5]⟩ := by
    rw [State.receiveCharacter_of_hunting (by rw [hr]), hr, Receiver.take_of_hunting rfl]
    rfl
  rw [hfirst, State.receiveCharacter_of_hunting (by simp), State.holding_receiver,
    Receiver.take_of_hunting rfl, State.holding_holding]
  rfl

/-- A frame closed with the CRC-8 of its eleven bytes is valid (R30, R197). -/
theorem frameValid_crc8 {body : List Byte} (hb : body.length = 11) :
    frameValid ([0xE5, 0x1B] ++ body ++ [crc8 body]) = true := by
  have hbody : (([0xE5, 0x1B] ++ body ++ [crc8 body]).drop 2).take 11 = body := by
    simp [hb]
  have hcode : ([0xE5, 0x1B] ++ body ++ [crc8 body]).getD 13 0 = crc8 body :=
    getD_append_cons (by simp [hb])
  rw [frameValid, hbody, hcode, beq_self_eq_true]

/-- Settles O38: the sync pair, the eleven bytes held in turn, and the code that makes them valid. -/
theorem frameBytesMakeASample : Obligations.FrameBytesMakeASample := by
  intro h body s hb hr
  dsimp only
  simp only [List.foldl_append, List.foldl_cons, List.foldl_nil]
  rw [State.receive_sync_pair hr, State.foldl_receiveCharacter_holding h body s _ (by simp [hb]),
    State.receiveCharacter_of_complete (State.holding_receiver _ _ _) (by simp [hb]),
    State.checkFrame, if_pos (frameValid_crc8 hb), State.holding_holding]
  rfl

/-! ## What reaches the engine -/

section

variable {s : State} {h : Head} {w : Session} {g : Integration}

/-! Corrupt frames and gaps count in the record of an INTEGRATING engine alone (R55). -/

theorem State.engineCorrupt_of_integrating (he : s.engines.get h = .integrating w g) :
    s.engineCorrupt h = { s with
      occupations := Table.modify s.occupations w.occupation fun o =>
        { o with counts := { o.counts with corrupt := min (o.counts.corrupt + 1) 65535 } } } := by
  rw [State.engineCorrupt, he]
  simp only [State.modifyOccupation, recordCount_eq_min]

theorem State.engineCorrupt_of_not_integrating (hc : (s.engines.get h).code ≠ 2) :
    s.engineCorrupt h = s := by
  unfold State.engineCorrupt
  split
  · next he => exact absurd (congrArg Engine.code he) hc
  · rfl

theorem State.engineGap_of_integrating (he : s.engines.get h = .integrating w g) (m : Nat) :
    s.engineGap h m = { s with
      occupations := Table.modify s.occupations w.occupation fun o =>
        { o with counts := { o.counts with gap := min (o.counts.gap + m) 65535 } } } := by
  rw [State.engineGap, he]
  simp only [State.modifyOccupation, recordCount_eq_min]

theorem State.engineGap_of_not_integrating (hc : (s.engines.get h).code ≠ 2) (m : Nat) :
    s.engineGap h m = s := by
  unfold State.engineGap
  split
  · next he => exact absurd (congrArg Engine.code he) hc
  · rfl

theorem State.engineHeadLost_of_settling {n : Nat} {d : TimeMs}
    (he : s.engines.get h = .settling w n d) :
    s.engineHeadLost h = { s with engines := s.engines.set h (.settling w 0 d) } := by
  rw [State.engineHeadLost, he]
  rfl

theorem State.engineHeadLost_of_not_settling (he : ∀ w n d, s.engines.get h ≠ .settling w n d) :
    s.engineHeadLost h = s := by
  unfold State.engineHeadLost
  split
  · next hs => exact absurd hs (he _ _ _)
  · rfl

end

/-! ## Frames broken off -/

theorem State.countCorrupt_eq (s : State) (h : Head) (r : Receiver) :
    s.countCorrupt h r = State.engineCorrupt
      { s with
        channels := s.channels.set h
          { s.channels.get h with
            receiver := r, corrupt := min ((s.channels.get h).corrupt + 1) 4294967295 } } h := by
  rw [State.countCorrupt, channelCount_eq_min]
  rfl

theorem State.countCorrupt_holding (s : State) (h : Head) (r r' : Receiver) :
    (s.holding h r).countCorrupt h r' = State.engineCorrupt
      { s with
        channels := s.channels.set h
          { s.channels.get h with
            receiver := r', corrupt := min ((s.channels.get h).corrupt + 1) 4294967295
            lastCharacter := some s.timeBase } } h := by
  rw [State.countCorrupt_eq]
  simp [State.holding, State.setChannel, PerHead.set_set]

/-- Settles O40: what each character and each break does to its channel, and what the engine counts. -/
theorem charactersAndBrokenFrames : Obligations.CharactersAndBrokenFrames := by
  intro h s hrun
  have hrunning (act : State → State) : s.whenRunning act = act s :=
    State.whenRunning_of_running hrun act
  refine ⟨fun b hp => ?_, fun b hp hl => ?_, fun hp => ?_, fun hp => ?_, fun hdue => ?_,
    fun b hp hl hv => ?_, fun w g he => State.engineCorrupt_of_integrating he,
    fun hc => State.engineCorrupt_of_not_integrating hc⟩
  · rw [exec, execHeadLineCharacter, hrunning, State.receiveCharacter_of_hunting hp,
      Receiver.take_of_hunting hp]
    rfl
  · rw [exec, execHeadLineCharacter, hrunning, State.receiveCharacter_of_collecting hp hl]
    rfl
  · rw [exec, execCharacterFramingError, hrunning, State.framingError]
    simp only [hp]
    rfl
  · rw [exec, execCharacterFramingError, hrunning, State.framingError]
    simp only [hp, State.countCorrupt_eq]
    rfl
  · rw [exec, execFrameBrokenOff, hrunning, if_pos hdue, State.countCorrupt_eq]
    rfl
  · have hr : (s.channels.get h).receiver = ⟨.collecting, (s.channels.get h).receiver.held⟩ := by
      rw [← hp]
    rw [exec, execHeadFrame, hrunning, State.receiveCharacter_of_complete hr hl, State.checkFrame,
      if_neg (by simp [hv]), State.countCorrupt_holding]

/-! ## Valid frames -/

/-- A verdict goes into its own count (R37). -/
theorem Channel.countVerdict_eq (c : Channel) (v : Verdict) :
    c.countVerdict v = { c with
      accepted := if v = .accepted then min (c.accepted + 1) 4294967295 else c.accepted
      rejectedClamped :=
        if v = .clamped then min (c.rejectedClamped + 1) 4294967295 else c.rejectedClamped
      rejectedThermal :=
        if v = .thermal then min (c.rejectedThermal + 1) 4294967295 else c.rejectedThermal
      rejectedTilt := if v = .tilt then min (c.rejectedTilt + 1) 4294967295 else c.rejectedTilt
      rejectedOffscale :=
        if v = .offscale then min (c.rejectedOffscale + 1) 4294967295
        else c.rejectedOffscale } := by
  cases v <;> simp [Channel.countVerdict, channelCount_eq_min]

/-- A frame leaves the receiver waiting for the next, whatever it held. -/
theorem Channel.afterFrame_receiver (c : Channel) (r : Receiver) (t : Nat) (x : Sample) :
    Channel.afterFrame { c with receiver := r } t x = c.afterFrame t x := by
  simp only [Channel.afterFrame, Channel.countVerdict_eq]
  rfl

theorem Channel.missing_of_present {c : Channel} {l : Byte} (hl : c.lastSequence = some l)
    (hs : c.state = .live ∨ c.state = .clamped) (q : Byte) : c.missing q = (q - l - 1).toNat := by
  obtain hs | hs := hs <;> simp [Channel.missing, hl, hs]

theorem Channel.missing_of_absent {c : Channel} (hs : c.state = .absent ∨ c.state = .lost)
    (q : Byte) : c.missing q = 0 := by
  obtain hs | hs := hs <;> simp [Channel.missing, hs]

/-- The channel when a valid frame and its last character are recorded (R31 to R39). -/
def Channel.recorded (c : Channel) (timeBase : Nat) (x : Sample) : Channel :=
  Channel.afterFrame { c with lastCharacter := some timeBase } timeBase x

theorem Channel.recorded_eq (c : Channel) (t : Nat) (x : Sample) :
    c.recorded t x = { c with
      state := if x.clampFlag then .clamped else .live
      receiver := ⟨.hunting, []⟩
      lastCharacter := some t
      rate := some x.rate
      lastSequence := some x.sequence
      lastValid := some t
      gap := min (c.gap + c.missing x.sequence) 4294967295
      lastSample := some x
      accepted := if x.verdict = .accepted then min (c.accepted + 1) 4294967295 else c.accepted
      rejectedClamped :=
        if x.verdict = .clamped then min (c.rejectedClamped + 1) 4294967295 else c.rejectedClamped
      rejectedThermal :=
        if x.verdict = .thermal then min (c.rejectedThermal + 1) 4294967295 else c.rejectedThermal
      rejectedTilt :=
        if x.verdict = .tilt then min (c.rejectedTilt + 1) 4294967295 else c.rejectedTilt
      rejectedOffscale :=
        if x.verdict = .offscale then min (c.rejectedOffscale + 1) 4294967295
        else c.rejectedOffscale } := by
  rw [Channel.recorded, Channel.afterFrame, Channel.countVerdict_eq, channelCount_eq_min]
  rfl

/-- The state in which the sample of a valid frame reaches the engine: the channel has recorded the
frame, and the gap is counted (R31 to R39). -/
def State.recorded (s : State) (h : Head) (x : Sample) : State :=
  (s.setChannel h ((s.channels.get h).recorded s.timeBase x)).engineGap h
    ((s.channels.get h).missing x.sequence)

theorem State.validFrame_holding (s : State) (h : Head) (r : Receiver) (frame : List Byte) :
    (s.holding h r).validFrame h frame
      = (s.recorded h (sampleOf (s.activeSet h) s.now frame)).engineSample h
          (sampleOf (s.activeSet h) s.now frame) := by
  have hrecord (x : Sample) : ((s.holding h r).channels.get h).afterFrame s.timeBase x
      = (s.channels.get h).recorded s.timeBase x := by
    rw [State.holding, State.setChannel_channels, PerHead.get_set_same]
    exact Channel.afterFrame_receiver { s.channels.get h with lastCharacter := some s.timeBase } _ _ _
  have hmissing (q : Byte) :
      ((s.holding h r).channels.get h).missing q = (s.channels.get h).missing q := by
    rw [State.holding, State.setChannel_channels, PerHead.get_set_same]
    rfl
  have hset (c : Channel) : (s.holding h r).setChannel h c = s.setChannel h c := by
    simp [State.holding, State.setChannel, PerHead.set_set]
  unfold State.validFrame
  dsimp only
  rw [hmissing, hset, show (s.holding h r).timeBase = s.timeBase from rfl, hrecord]
  rfl

theorem exec_headFrame_of_valid {s : State} {h : Head} {held : List Byte} {last : Byte}
    (hrun : s.running = true) (hr : (s.channels.get h).receiver = ⟨.collecting, held⟩)
    (hl : held.length = 13) (hv : frameValid (held ++ [last]) = true) :
    exec (.headFrame h last) s
      = .next ((s.recorded h (sampleOf (s.activeSet h) s.now (held ++ [last]))).engineSample h
          (sampleOf (s.activeSet h) s.now (held ++ [last]))) := by
  rw [exec, execHeadFrame, State.whenRunning_of_running hrun, State.receiveCharacter_of_complete hr hl,
    State.checkFrame, if_pos hv, State.validFrame_holding]

theorem sampleOf_sequence_append (set : CalibrationSet) (time : Option TimeMs) {held : List Byte}
    (hl : held.length = 13) (last : Byte) :
    (sampleOf set time (held ++ [last])).sequence = held.getD 3 0 :=
  List.getD_append _ _ _ _ (by omega)

/-- Settles O39: the frame is recorded, and what the channel then holds is read off field by field. -/
theorem validFrameUpdatesChannel : Obligations.ValidFrameUpdatesChannel := by
  intro h held last s hrun hr hl hv
  have hseq := sampleOf_sequence_append (s.activeSet h) s.now hl last
  have hexec := exec_headFrame_of_valid hrun hr hl hv
  generalize hx : sampleOf (s.activeSet h) s.now (held ++ [last]) = x at hseq hexec
  refine ⟨s.recorded h x, (s.channels.get h).recorded s.timeBase x, x,
    (s.channels.get h).missing x.sequence, hexec, ⟨held, hr, hl, hv, hx.symm, rfl⟩, rfl, ?_, ?_⟩
  · unfold State.recorded
    cases he : s.engines.get h
    case integrating w g => exact State.engineGap_of_integrating (s := s.setChannel h _) he _
    all_goals exact State.engineGap_of_not_integrating (by simp [he, Engine.code]) _
  · rw [Channel.recorded_eq, hseq]
    exact ⟨rfl, rfl, rfl, rfl, rfl, rfl, rfl, rfl,
      fun l h1 h2 => Channel.missing_of_present h1 h2 _, fun h1 => Channel.missing_of_absent h1 _,
      rfl, rfl, rfl, rfl, rfl, rfl⟩

/-! ## The head timeout -/

theorem State.timeoutDue_iff {s : State} {h : Head} :
    s.timeoutDue h = true ↔
      ((s.channels.get h).state = .live ∨ (s.channels.get h).state = .clamped)
        ∧ ∃ v, (s.channels.get h).lastValid = some v
          ∧ v + 100 * (s.activeSet h).headTimeout ≤ s.timeBase := by
  unfold State.timeoutDue
  split
  · next hs hv => simp [hs, hv]
  · next hs hv => simp [hs, hv]
  · next hlive hclamped =>
    simp only [Bool.false_eq_true, false_iff]
    rintro ⟨hs | hs, v, hv, -⟩
    · exact hlive v hs hv
    · exact hclamped v hs hv

theorem exec_headTimeout {s : State} (hrun : s.running = true) (h : Head) :
    exec (.headTimeout h) s = .next (s.loseHead h) := by
  rw [exec, execHeadTimeout, State.whenRunning_of_running hrun]

theorem State.loseHead_of_not_due {s : State} {h : Head} (hd : ¬s.timeoutDue h = true) :
    s.loseHead h = s := by
  rw [State.loseHead, if_neg hd]

/-- The state with head `h` LOST and its notice set, before the engine is told (R33). -/
def State.withLost (s : State) (h : Head) : State :=
  (s.setChannel h { s.channels.get h with state := .lost }).setNotice (.headLost h)

theorem State.loseHead_of_due {s : State} {h : Head} (hd : s.timeoutDue h = true) :
    s.loseHead h = (s.withLost h).engineHeadLost h := by
  rw [State.loseHead, if_pos hd]
  rfl

/-- Settles O41: due is exactly a LIVE or CLAMPED head whose last valid frame lies a timeout back. -/
theorem headTimeoutLosesTheHead : Obligations.HeadTimeoutLosesTheHead := by
  intro h s hrun
  have hkeeps (hd : ¬s.timeoutDue h = true) : exec (.headTimeout h) s = .next s := by
    rw [exec_headTimeout hrun, State.loseHead_of_not_due hd]
  refine ⟨fun v hs hv hle => ⟨s.loseHead h, exec_headTimeout hrun h, ?_⟩,
    fun v hv hlt => hkeeps fun hd => ?_, fun hs => hkeeps fun hd => ?_⟩
  · rw [State.loseHead_of_due (State.timeoutDue_iff.2 ⟨hs, v, hv, hle⟩)]
    refine ⟨?_, fun w n d he => ?_, fun he => ?_⟩
    · obtain ⟨e, he⟩ := (s.withLost h).engineHeadLost_frame h
      rw [he]
      rfl
    · rw [State.engineHeadLost_of_settling (s := s.withLost h) he]
      rfl
    · rw [State.engineHeadLost_of_not_settling (s := s.withLost h) he]
      rfl
  · obtain ⟨-, v', hv', hle⟩ := State.timeoutDue_iff.1 hd
    cases hv.symm.trans hv'
    omega
  · obtain ⟨hp, -⟩ := State.timeoutDue_iff.1 hd
    rcases hs with hs | hs <;> simp [hs] at hp

end Sys2Proof.Machine
end

section
/-! The requests that name a head, and an engine's way from SETTLING over INTEGRATING to REDUCING or to a
failure (R47, R51 to R53, R59 to R62, R65, R66). -/

namespace Sys2Proof.Machine

/-! ## The requests that name a head -/

section

variable {s : State} (hs : s.serves) (tag : Byte) (serve : Head → State → State × Answer)

include hs

theorem State.request_onHead (h : Head) :
    s.request tag (beBytes 1 h.code) (onHead serve)
      = (serve h s.taken).1.respond tag (serve h s.taken).2 := by
  rw [onHead, State.request_fixedForm hs (by simp) (by decide), beBytes_one, List.getD_cons_zero,
    Head.ofCode_code]

theorem State.request_onHead_of_limit {code : Byte} (hc : 3 < code.toNat) :
    s.request tag [code] (onHead serve) = s.answeredAs s.statusByte tag ⟨.badField, []⟩ := by
  rw [onHead, State.request_fixedForm hs (n := 1) (p := [code]) rfl (by decide), List.getD_cons_zero,
    Head.ofCode_eq_none.2 hc]
  rfl

/-- A head the request does not act on refuses it and changes nothing (R186). -/
theorem State.request_onHead_of_refusal {serve : Head → State → State × Answer} {h : Head}
    {c : ResponseCode} (hr : serve h s.taken = (s.taken, refusal c)) :
    s.request tag (beBytes 1 h.code) (onHead serve) = s.answeredAs s.statusByte tag ⟨c, []⟩ := by
  rw [State.request_onHead hs, hr]
  rfl

end

/-! ## From SETTLING to INTEGRATING -/

theorem State.enterIntegrating_of_settling {s : State} {h : Head} {w : Session} {n : Nat} {d : TimeMs}
    (he : s.engines.get h = .settling w n d) (start : TimeMs) :
    s.enterIntegrating h start = { s with
      engines := s.engines.set h (.integrating w ⟨start, start + 2000 * w.granted, 0, 0, []⟩) } := by
  rw [State.enterIntegrating, he, show 2000 * w.granted = 2 * w.granted * 1000 by omega]
  rfl

theorem State.settleReached_of_count {s : State} {h : Head} {w : Session} {n : Nat} {d at_ : TimeMs}
    {x : Sample} (he : s.engines.get h = .settling w n d) (hn : (s.activeSet h).settleCount ≤ n)
    (hx : (s.channels.get h).lastSample = some x) (ht : x.time = some at_) :
    s.settleReached h = { s with
      engines := s.engines.set h (.integrating w ⟨at_, at_ + 2000 * w.granted, 0, 0, []⟩) } := by
  have hlast : s.lastSampleTime h = at_ := by simp [State.lastSampleTime, hx, ht]
  rw [State.settleReached, he]
  dsimp only
  rw [if_pos hn, hlast, State.enterIntegrating_of_settling he]

theorem forceIntegrate_of_settling {s : State} {h : Head} {w : Session} {n : Nat} {d now : TimeMs}
    (he : s.engines.get h = .settling w n d) (hnow : s.now = some now) :
    forceIntegrate h s = ({ s with
      engines := s.engines.set h (.integrating w ⟨now, now + 2000 * w.granted, 0, 0, []⟩) },
      done (beBytes 2 n)) := by
  rw [forceIntegrate, he, hnow]
  exact congrArg (·, _) (State.enterIntegrating_of_settling he now)

theorem forceIntegrate_of_not_settling {s : State} {h : Head} (hc : (s.engines.get h).code ≠ 1) :
    forceIntegrate h s = (s, refusal .wrongState) := by
  unfold forceIntegrate
  split
  · next he => exact absurd (by rw [he]; rfl) hc
  · rfl

theorem State.now_of_serves {s : State} (hs : s.serves) : s.now = s.clock := by
  obtain ⟨-, hup, -⟩ := hs
  rw [State.now, hup]
  rfl

/-- Settles O26: FORCE_INTEGRATE and SETTLE_COUNT_REACHED enter INTEGRATING by one function, from the
request's time and from the sample's. -/
theorem integrationBegins : Obligations.IntegrationBegins := by
  refine ⟨fun h w n d s he => ⟨fun tag now hs hnow => ?_, fun x at_ hrun hn hx ht => ?_⟩,
    fun tag s hs => ⟨fun code hc => ?_, fun h hc => ?_⟩⟩
  · refine congrArg Host.Outcome.next ((State.request_onHead hs tag forceIntegrate h).trans ?_)
    rw [forceIntegrate_of_settling (s := s.taken) he ((State.now_of_serves hs).trans hnow)]
    rfl
  · exact congrArg Host.Outcome.next
      ((State.whenRunning_of_running hrun _).trans (State.settleReached_of_count he hn hx ht))
  · exact congrArg Host.Outcome.next (State.request_onHead_of_limit hs tag forceIntegrate hc)
  · exact congrArg Host.Outcome.next (State.request_onHead_of_refusal hs tag
      (forceIntegrate_of_not_settling (s := s.taken) hc))

/-! ## Integration ended and judged -/

section

variable {s : State} {h : Head} {w : Session} {g : Integration}
  (he : s.engines.get h = .integrating w g)

include he

theorem State.endIntegration_of_noisy {d : Ending} (hj : judge d (s.countsOf w.occupation) = none) :
    s.endIntegration h d = s.failOccupation h .noisy := by
  rw [State.endIntegration, he]
  dsimp only
  rw [hj]

theorem State.endIntegration_of_graded {d : Ending} {grade : Grade}
    (hj : judge d (s.countsOf w.occupation) = some grade) :
    s.endIntegration h d = (s.setEngine h (.reducing w g d grade)).closeIfReady h := by
  rw [State.endIntegration, he]
  dsimp only
  rw [hj]

theorem State.endIntegration_of_owed {d : Ending} {grade : Grade} (ho : g.owed ≠ [])
    (hj : judge d (s.countsOf w.occupation) = some grade) :
    s.endIntegration h d
      = { s with engines := s.engines.set h (.reducing w g d grade) } := by
  rw [State.endIntegration_of_graded he hj, State.closeIfReady, State.setEngine_engines,
    PerHead.get_set_same]
  exact if_neg fun hnil => ho (List.isEmpty_iff.1 hnil)

theorem State.targetReached_of_reached (hn : w.target ≤ (s.countsOf w.occupation).accepted) :
    s.targetReached h = s.endIntegration h .target := by
  rw [State.targetReached, he]
  exact if_pos hn

theorem State.targetReached_of_short (hn : (s.countsOf w.occupation).accepted < w.target) :
    s.targetReached h = s := by
  rw [State.targetReached, he]
  exact if_neg (Nat.not_le.2 hn)

theorem State.capIntegration_of_half (hn : w.target ≤ 2 * (s.countsOf w.occupation).accepted) :
    s.capIntegration h = s.endIntegration h .cap := by
  rw [State.capIntegration, he]
  exact if_neg (Nat.not_lt.2 hn)

theorem State.capIntegration_of_short (hn : 2 * (s.countsOf w.occupation).accepted < w.target) :
    s.capIntegration h = s.failOccupation h .short := by
  rw [State.capIntegration, he]
  exact if_pos hn

theorem State.stopIntegration_of_enough (hn : 30 ≤ (s.countsOf w.occupation).accepted) :
    s.stopIntegration h = s.endIntegration h .stop := by
  rw [State.stopIntegration, he]
  exact if_neg (Nat.not_lt.2 hn)

theorem State.stopIntegration_of_short (hn : (s.countsOf w.occupation).accepted < 30) :
    s.stopIntegration h = s.failOccupation h .short := by
  rw [State.stopIntegration, he]
  exact if_pos hn

theorem stopOccupation_of_integrating :
    stopOccupation h s = (s.stopIntegration h,
      done (beBytes 2 (s.countsOf w.occupation).accepted ++ yesNo (s.stopReduces w))) := by
  rw [stopOccupation, he]

end

theorem stopOccupation_of_not_integrating {s : State} {h : Head} (hc : (s.engines.get h).code ≠ 2) :
    stopOccupation h s = (s, refusal .wrongState) := by
  unfold stopOccupation
  split
  · next he => exact absurd (by rw [he]; rfl) hc
  · rfl

theorem State.stopReduces_of_graded {s : State} {w : Session} {grade : Grade}
    (hn : 30 ≤ (s.countsOf w.occupation).accepted)
    (hj : judge .stop (s.countsOf w.occupation) = some grade) : s.stopReduces w = true := by
  rw [State.stopReduces, hj, decide_eq_true (show Config.fewestForStop ≤ _ from hn)]
  rfl

theorem State.stopReduces_of_short {s : State} {w : Session}
    (hn : (s.countsOf w.occupation).accepted < 30) : s.stopReduces w = false := by
  rw [State.stopReduces, decide_eq_false (show ¬Config.fewestForStop ≤ _ from Nat.not_le.2 hn),
    Bool.false_and]

theorem State.stopReduces_of_noisy {s : State} {w : Session}
    (hj : judge .stop (s.countsOf w.occupation) = none) : s.stopReduces w = false := by
  rw [State.stopReduces, hj, Option.isSome_none, Bool.and_false]

theorem exec_targetReached {s : State} (hrun : s.running = true) (h : Head) :
    exec (.targetReached h) s = .next (s.targetReached h) :=
  congrArg Host.Outcome.next (State.whenRunning_of_running hrun _)

theorem exec_capDeadline_of_due {s : State} {h : Head} (hrun : s.running = true)
    (hdue : s.capDue h = true) : exec (.capDeadline h) s = .next (s.capIntegration h) :=
  congrArg Host.Outcome.next ((State.whenRunning_of_running hrun _).trans (if_pos hdue))

/-- STOP_OCCUPATION that an integrating engine serves (R60). -/
theorem exec_stopOccupation_of_integrating {s : State} (hs : s.serves) (tag : Byte) {h : Head}
    {w : Session} {g : Integration} (he : s.engines.get h = .integrating w g) :
    exec (.stopOccupation tag (beBytes 1 h.code)) s
      = .next ((s.taken.stopIntegration h).respond tag
          (done (beBytes 2 (s.countsOf w.occupation).accepted ++ yesNo (s.stopReduces w)))) := by
  refine congrArg Host.Outcome.next ((State.request_onHead hs tag stopOccupation h).trans ?_)
  rw [stopOccupation_of_integrating (s := s.taken) he]
  rfl

/-- The judgement in the exact fractions of R62: 40 per cent is 2 in 5, 10 per cent 1 in 10. -/
theorem judge_iff (e : Ending) (k : OccCounts) {r n : Nat} (hr : k.rejected = r)
    (hn : k.accepted + r = n) :
    (judge e k = none ↔ 5 * r > 2 * n)
      ∧ (judge e k = some .c ↔ 5 * r ≤ 2 * n ∧ (e = .cap ∨ 10 * r > n))
      ∧ (judge e k = some .a ↔ e ≠ .cap ∧ 10 * r ≤ n ∧ k.extended = 0)
      ∧ (judge e k = some .b ↔ e ≠ .cap ∧ 10 * r ≤ n ∧ k.extended ≠ 0) := by
  have hjudge : judge e k = if 2 * n < 5 * r then none
      else if n < 10 * r ∨ e = .cap then some .c
      else if k.extended = 0 then some .a else some .b := by
    rw [← hn, ← hr]
    rfl
  rw [hjudge]
  by_cases hnoisy : 2 * n < 5 * r
  · grind
  · by_cases hc : n < 10 * r ∨ e = .cap
    · grind
    · grind

/-- Settles O27: while steps are owed the judged integration goes to REDUCING and changes nothing else. -/
theorem endedIntegrationIsJudged : Obligations.EndedIntegrationIsJudged := by
  refine ⟨fun h w g grade s he ho => ⟨fun hrun hn hj => ?_, fun hrun hdue hn hj => ?_,
    fun tag hs hn hj => ?_⟩, fun e k => judge_iff e k rfl rfl⟩
  · rw [exec_targetReached hrun, State.targetReached_of_reached he hn,
      State.endIntegration_of_owed he ho hj]
  · rw [exec_capDeadline_of_due hrun hdue, State.capIntegration_of_half he hn,
      State.endIntegration_of_owed he ho hj]
  · rw [exec_stopOccupation_of_integrating hs tag he,
      State.stopIntegration_of_enough (s := s.taken) he hn,
      State.endIntegration_of_owed (s := s.taken) he ho hj, State.stopReduces_of_graded hn hj]
    rfl

/-! ## Occupations failed -/

/-- The link plays no part in a failure. -/
theorem State.failOccupation_taken_respond {s : State} {h : Head} {w : Session}
    (hw : (s.engines.get h).session? = some w) (c : FailCause) (tag : Byte) (a : Answer) :
    (s.taken.failOccupation h c).respond tag a
      = (s.failOccupation h c).answeredAs s.statusByte tag a := by
  rw [(State.failedTo_failOccupation hw c).1,
    (State.failedTo_failOccupation (s := s.taken) hw c).1, State.withdraw_tide_taken]
  rfl

theorem Engine.session?_integrating {e : Engine} {w : Session} {g : Integration}
    (he : e = .integrating w g) : e.session? = some w := by
  rw [he]
  rfl

/-- STOP_OCCUPATION that fails the occupation, too short or NOISY (R60, R62). -/
theorem exec_stopOccupation_of_failing {s : State} (hs : s.serves) (tag : Byte) {h : Head} {w : Session}
    {g : Integration} (he : s.engines.get h = .integrating w g) {c : FailCause}
    (hfail : s.taken.stopIntegration h = s.taken.failOccupation h c)
    (hred : s.stopReduces w = false) :
    ∃ t : State, s.failedTo t h w c
      ∧ exec (.stopOccupation tag (beBytes 1 h.code)) s = .next (t.answeredAs s.statusByte tag
          ⟨.done, beBytes 2 (s.countsOf w.occupation).accepted ++ [0]⟩) := by
  have hw := Engine.session?_integrating he
  refine ⟨_, State.failedTo_failOccupation hw c, ?_⟩
  rw [exec_stopOccupation_of_integrating hs tag he, hfail, State.failOccupation_taken_respond hw,
    hred]
  rfl

theorem exec_cancelOccupation {s : State} (hs : s.serves) (tag : Byte) {h : Head} {w : Session}
    (hw : (s.engines.get h).session? = some w) :
    exec (.cancelOccupation tag (beBytes 1 h.code)) s
      = .next ((s.failOccupation h .cancelled).answeredAs s.statusByte tag
          ⟨.done, beBytes 2 w.occupation ++ beBytes 1 (s.engines.get h).code⟩) := by
  refine congrArg Host.Outcome.next ((State.request_onHead hs tag cancelOccupation h).trans ?_)
  rw [← State.failOccupation_taken_respond hw, cancelOccupation, State.taken_engines, hw]
  rfl

theorem cancelOccupation_of_idle {s : State} {h : Head} (he : s.engines.get h = .idle) :
    cancelOccupation h s = (s, refusal .wrongState) := by
  rw [cancelOccupation, he]
  rfl

/-- Settles O28: whichever way an occupation fails, it is the one function of R65 that ends it. -/
theorem failureEndsTheOccupation : Obligations.FailureEndsTheOccupation := by
  refine ⟨fun h w s => ⟨fun tag hs hw => ?_, fun n d hrun he hdue => ?_, fun g hrun he hdue hn => ?_,
    fun tag g hs he hn => ?_, fun g hrun he hn hj => ?_, fun g hrun he hdue hn hj => ?_,
    fun tag g hs he hn hj => ?_⟩,
    fun tag s hs => ⟨fun code hc => ⟨?_, ?_⟩, fun h => ⟨fun hc => ?_, fun he => ?_⟩⟩⟩
  · exact ⟨_, State.failedTo_failOccupation hw .cancelled, exec_cancelOccupation hs tag hw⟩
  · have hw : (s.engines.get h).session? = some w := by rw [he]; rfl
    exact ⟨_, State.failedTo_failOccupation hw .unsettled, congrArg Host.Outcome.next
      ((State.whenRunning_of_running hrun _).trans (if_pos hdue))⟩
  · refine ⟨_, State.failedTo_failOccupation (Engine.session?_integrating he) .short, ?_⟩
    rw [exec_capDeadline_of_due hrun hdue, State.capIntegration_of_short he hn]
  · exact exec_stopOccupation_of_failing hs tag he
      (State.stopIntegration_of_short (s := s.taken) he hn) (State.stopReduces_of_short hn)
  · refine ⟨_, State.failedTo_failOccupation (Engine.session?_integrating he) .noisy, ?_⟩
    rw [exec_targetReached hrun, State.targetReached_of_reached he hn,
      State.endIntegration_of_noisy he hj]
  · refine ⟨_, State.failedTo_failOccupation (Engine.session?_integrating he) .noisy, ?_⟩
    rw [exec_capDeadline_of_due hrun hdue, State.capIntegration_of_half he hn,
      State.endIntegration_of_noisy he hj]
  · exact exec_stopOccupation_of_failing hs tag he
      ((State.stopIntegration_of_enough (s := s.taken) he hn).trans
        (State.endIntegration_of_noisy (s := s.taken) he hj)) (State.stopReduces_of_noisy hj)
  · exact congrArg Host.Outcome.next (State.request_onHead_of_limit hs tag stopOccupation hc)
  · exact congrArg Host.Outcome.next (State.request_onHead_of_limit hs tag cancelOccupation hc)
  · exact congrArg Host.Outcome.next (State.request_onHead_of_refusal hs tag
      (stopOccupation_of_not_integrating (s := s.taken) hc))
  · exact congrArg Host.Outcome.next (State.request_onHead_of_refusal hs tag
      (cancelOccupation_of_idle (s := s.taken) he))

end Sys2Proof.Machine
end

section
/-! The Tide Engine's slots, the steps a head owes, and the samples that reach an engine (R51, R54 to R59,
R102 to R106). -/

namespace Sys2Proof.Machine

/-! ## Choosing, placing and withdrawing requests -/

theorem TideEngine.waiting_eq_none {t : TideEngine} {src : TideSource} :
    t.waiting src = none ↔ ∀ r, t.slot src ≠ .waiting r := by
  unfold TideEngine.waiting
  split
  · next r hr => simp [hr]
  · next hr => exact ⟨fun _ => hr, fun _ => rfl⟩

/-- No head of a list waits. -/
theorem TideEngine.findSome?_waitingHead_eq_none {t : TideEngine} {l : List TideSource}
    (h : ∀ h', .head h' ∈ l → ∀ r', t.headSlots.get h' ≠ .waiting r') :
    l.findSome? t.waitingHead = none := by
  refine List.findSome?_eq_none_iff.2 fun src hsrc => ?_
  cases src with
  | revision => rfl
  | head h' => exact TideEngine.waiting_eq_none.2 (h h' hsrc)

/-- The head request placed earliest is chosen (R103). -/
theorem TideEngine.choose_of_head {t : TideEngine} {h : Head} {before after : List TideSource}
    {r : TideRequest} (hp : t.placed = before ++ .head h :: after)
    (hr : t.headSlots.get h = .waiting r)
    (hb : ∀ h', .head h' ∈ before → ∀ r', t.headSlots.get h' ≠ .waiting r') :
    t.choose = some (.head h, r) := by
  have hw : t.waitingHead (.head h) = some (.head h, r) := TideEngine.waiting_eq_some.2 ⟨rfl, hr⟩
  rw [TideEngine.choose, hp, List.findSome?_append, TideEngine.findSome?_waitingHead_eq_none hb,
    List.findSome?_cons, hw]
  rfl

/-- With no head waiting the Revision Engine's request is chosen, if it has one (R103). -/
theorem TideEngine.choose_of_no_head {t : TideEngine}
    (h : ∀ h', .head h' ∈ t.placed → ∀ r', t.headSlots.get h' ≠ .waiting r') :
    t.choose = t.waiting .revision := by
  rw [TideEngine.choose, TideEngine.findSome?_waitingHead_eq_none h, Option.none_or]

theorem State.startEvaluation_of_busy {s : State} (h : s.tide.evaluation ≠ none) :
    s.startEvaluation = s := by
  obtain ⟨e, he⟩ := Option.ne_none_iff_exists'.1 h
  rw [State.startEvaluation, he]

theorem State.startEvaluation_of_none {s : State} (h : s.tide.choose = none) :
    s.startEvaluation = s := by
  unfold State.startEvaluation
  split
  · next hc => cases h.symm.trans hc
  · rfl

theorem State.startEvaluation_of_chosen {s : State} {src : TideSource} {r : TideRequest}
    (he : s.tide.evaluation = none) (h : s.tide.choose = some (src, r)) :
    s.startEvaluation = { s with tide := { s.tide.setSlot src (.evaluating r) with
      placed := s.tide.placed.filter fun y => y != src
      evaluation := some ⟨src, r, s.constituents, s.tableGen, false⟩ } } := by
  rw [State.startEvaluation, he, h]

theorem State.placeRequest_of_empty {s : State} {src : TideSource} (h : s.tide.slot src = .empty)
    (r : TideRequest) :
    s.placeRequest src r = State.startEvaluation { s with tide :=
      { s.tide.setSlot src (.waiting r) with placed := s.tide.placed ++ [src] } } := by
  rw [State.placeRequest, h]

theorem State.placeRequest_of_taken {s : State} {src : TideSource} (h : s.tide.slot src ≠ .empty)
    (r : TideRequest) : s.placeRequest src r = s := by
  unfold State.placeRequest
  split
  · next he => exact absurd he h
  · rfl

theorem State.withdraw_of_waiting {s : State} {src : TideSource} {r : TideRequest}
    (h : s.tide.slot src = .waiting r) :
    s.withdraw src = { s with tide := { s.tide.setSlot src .empty with
      placed := s.tide.placed.filter fun y => y != src } } := by
  rw [State.withdraw, h]

theorem State.withdraw_of_evaluating {s : State} {src : TideSource} {r : TideRequest}
    (h : s.tide.slot src = .evaluating r) :
    s.withdraw src = { s with tide := { s.tide.setSlot src .empty with
      evaluation := s.tide.evaluation.map fun e => { e with isVoid := true } } } := by
  rw [State.withdraw, h]

/-! ## The steps a head owes -/

/-- The oldest owed step not yet requested is the one marked (R56). -/
theorem markRequested_of_next {before : List OwedStep} (hb : ∀ y ∈ before, y.requested = true)
    (k : Nat) (after : List OwedStep) :
    markRequested (before ++ ⟨k, false⟩ :: after) = before ++ ⟨k, true⟩ :: after := by
  induction before with
  | nil => rfl
  | cons y before ih =>
    obtain ⟨hy, hbefore⟩ := List.forall_mem_cons.1 hb
    rw [List.cons_append, markRequested, if_pos hy, ih hbefore, List.cons_append]

theorem markRequested_eq_nil {owed : List OwedStep} : markRequested owed = [] ↔ owed = [] := by
  cases owed with
  | nil => rfl
  | cons y owed =>
    unfold markRequested
    split <;> simp

theorem Engine.withOwed_self {e : Engine} {w : Session} {g : Integration}
    (h : e.integration? = some (w, g)) : e.withOwed g.owed = e := by
  cases e <;> cases h <;> rfl

theorem PerHead.set_get_self {α : Type} (p : PerHead α) (h : Head) : p.set h (p.get h) = p := by
  cases h <;> rfl

section

variable {s : State} {h : Head} {w : Session} {g : Integration}

theorem State.placeOwed_of_next (hi : (s.engines.get h).integration? = some (w, g))
    {before after : List OwedStep} {k : Nat} {st : Station}
    (ho : g.owed = before ++ ⟨k, false⟩ :: after) (hb : ∀ y ∈ before, y.requested = true)
    (hslot : s.tide.headSlots.get h = .empty) (hst : Table.get s.stations w.station = some st) :
    s.placeOwed h = State.placeRequest
      { s with
        engines := s.engines.set h
          ((s.engines.get h).withOwed (before ++ ⟨k, true⟩ :: after)) }
      (.head h) ⟨w.occupation, k, 30 * k + 15, st.latitude, st.longitude, st.coordGen⟩ := by
  have hfind : g.owed.find? (fun o => !o.requested) = some ⟨k, false⟩ := by
    rw [ho, List.find?_append, List.find?_eq_none.2 (by simpa using hb)]
    rfl
  rw [State.placeOwed, hi, hslot]
  dsimp only
  rw [hfind, hst]
  dsimp only
  rw [ho, markRequested_of_next hb]
  rfl

theorem State.placeOwed_of_taken (hslot : s.tide.headSlots.get h ≠ .empty) : s.placeOwed h = s := by
  unfold State.placeOwed
  split
  · next he => exact absurd he hslot
  · rfl

theorem State.placeOwed_of_requested (hi : (s.engines.get h).integration? = some (w, g))
    (hr : ∀ y ∈ g.owed, y.requested = true) : s.placeOwed h = s := by
  have hfind : g.owed.find? (fun o => !o.requested) = none :=
    List.find?_eq_none.2 (by simpa using hr)
  unfold State.placeOwed
  split
  · next hi' _ =>
    cases hi.symm.trans hi'
    rw [hfind]
  · rfl

/-- Placing a request marks an owed step at most: a head that owes steps still does. -/
theorem State.engine_placeOwed (hi : (s.engines.get h).integration? = some (w, g)) :
    ∃ owed, (s.placeOwed h).engines.get h = (s.engines.get h).withOwed owed
      ∧ (owed = [] ↔ g.owed = []) := by
  unfold State.placeOwed
  split
  · next hi' _ =>
    cases hi.symm.trans hi'
    split
    · obtain ⟨t, ht⟩ := State.placeRequest_frame (s.setEngine h _) (.head h) _
      rw [ht]
      exact ⟨_, PerHead.get_set_same _ _ _, markRequested_eq_nil⟩
    · exact ⟨_, (Engine.withOwed_self hi).symm, Iff.rfl⟩
  · exact ⟨_, (Engine.withOwed_self hi).symm, Iff.rfl⟩

theorem State.engine_placeOwed_of_integrating (he : s.engines.get h = .integrating w g) :
    ∃ g', (s.placeOwed h).engines.get h = .integrating w g' := by
  obtain ⟨owed, ho, -⟩ := State.engine_placeOwed (s := s) (h := h) (w := w) (g := g) (by rw [he]; rfl)
  rw [he] at ho
  exact ⟨_, ho⟩

end

/-! ## Samples -/

theorem OccCounts.reject_eq (k : OccCounts) (v : Verdict) :
    k.reject v = { k with
      clamped := if v = .clamped then min (k.clamped + 1) 65535 else k.clamped
      thermal := if v = .thermal then min (k.thermal + 1) 65535 else k.thermal
      tilt := if v = .tilt then min (k.tilt + 1) 65535 else k.tilt
      offscale := if v = .offscale then min (k.offscale + 1) 65535 else k.offscale } := by
  cases v <;> simp [OccCounts.reject, recordCount_eq_min]

theorem OccCounts.accept_eq (k : OccCounts) (r : Regime) :
    k.accept r = { k with
      accepted := min (k.accepted + 1) 65535
      extended := if r = .extended then min (k.extended + 1) 65535 else k.extended } := by
  simp only [OccCounts.accept, recordCount_eq_min]

theorem stepOfTime_eq (t : TimeMs) : stepOfTime t = t / 30000 := by
  rw [stepOfTime, Nat.div_div_eq_div_mul]
  rfl

section

variable {s : State} {h : Head} {x : Sample} {w : Session}

theorem State.engineSample_of_rate (hw : (s.engines.get h).session? = some w)
    (hc : (s.engines.get h).code ≠ 3) (hr : x.rate ≠ w.rate) :
    s.engineSample h x = s.failOccupation h .rateChange := by
  unfold State.engineSample
  cases he : s.engines.get h <;> rw [he] at hw hc <;> cases hw
  case settling => exact if_pos hr
  case integrating => exact if_pos hr
  case reducing => exact absurd rfl hc

theorem State.engineSample_of_settling {n : Nat} {d : TimeMs} (he : s.engines.get h = .settling w n d)
    (hr : x.rate = w.rate) :
    s.engineSample h x
      = (s.setEngine h (.settling w (settleCounter (s.activeSet h) n x) d)).settleReached h := by
  rw [State.engineSample, he]
  exact if_neg (not_not_intro hr)

theorem State.settleReached_of_below {n : Nat} {d : TimeMs} (he : s.engines.get h = .settling w n d)
    (hn : n < (s.activeSet h).settleCount) : s.settleReached h = s := by
  rw [State.settleReached, he]
  exact if_neg (Nat.not_le.2 hn)

variable {g : Integration} (he : s.engines.get h = .integrating w g) (hr : x.rate = w.rate)

include he hr

theorem State.engineSample_of_rejected (hv : x.verdict ≠ .accepted) :
    s.engineSample h x
      = s.modifyOccupation w.occupation fun o =>
          { o with counts := o.counts.reject x.verdict } := by
  rw [State.engineSample, he]
  exact (if_neg (not_not_intro hr)).trans (if_neg hv)

theorem State.engineSample_of_accepted (hv : x.verdict = .accepted) :
    s.engineSample h x = (s.integrateSample h w g x).targetReached h := by
  rw [State.engineSample, he]
  exact (if_neg (not_not_intro hr)).trans (if_pos hv)

omit he hr

/-- An accepted sample of step `at_ / 30000` taken into the record and the sums (R54, R56). -/
theorem State.integrateSample_eq {o : Occupation} {at_ : TimeMs}
    (ho : Table.get s.occupations w.occupation = some o) (ht : x.time = some at_) (g : Integration) :
    s.integrateSample h w g x = State.placeOwed
      { s with
        occupations := Table.modify s.occupations w.occupation fun o =>
          { o with counts := o.counts.accept x.regime, steps := addToSteps (at_ / 30000) o.steps }
        engines := s.engines.set h (.integrating w { g with
          readingSum := g.readingSum + sampleValue (s.activeSet h) x
          timeSum := g.timeSum + at_
          owed := if o.steps.any (fun y => y.index == at_ / 30000) then g.owed
            else g.owed ++ [⟨at_ / 30000, false⟩] }) } h := by
  simp only [State.integrateSample, ht, ho, Option.getD_some, Option.map_some, stepOfTime_eq]
  rfl

end

theorem State.countsOf_of_get {s : State} {n : Nat} {o : Occupation}
    (h : Table.get s.occupations n = some o) : s.countsOf n = o.counts := by
  rw [State.countsOf, h]
  rfl

theorem State.countsOf_placeOwed (s : State) (h : Head) (n : Nat) :
    (s.placeOwed h).countsOf n = s.countsOf n := by
  obtain ⟨e, t, hp⟩ := s.placeOwed_frame h
  rw [hp]
  rfl

/-- Settles O42: the branches of the sample's step, and those of placing an owed step. -/
theorem sampleReachesTheEngine : Obligations.SampleReachesTheEngine := by
  intro h x s
  refine ⟨fun w hw hc hr => ?_, fun w n d he hr => ⟨fun hn => ?_, fun at_ hn hx ht => ?_⟩,
    fun w g he hr hv => ?_, fun w g o at_ he hr hv ht ho => ?_,
    fun w g before k after st hi ho hb hslot hst => State.placeOwed_of_next hi ho hb hslot hst,
    State.placeOwed_of_taken, fun w g hi hr => State.placeOwed_of_requested hi hr⟩
  · rw [State.engineSample_of_rate hw hc hr]
    exact State.failedTo_failOccupation hw .rateChange
  · rw [State.engineSample_of_settling he hr]
    exact State.settleReached_of_below (PerHead.get_set_same _ _ _) hn
  · rw [State.engineSample_of_settling he hr]
    refine (State.settleReached_of_count (s := s.setEngine h (.settling w _ d))
      (PerHead.get_set_same _ _ _) hn hx ht).trans ?_
    rw [State.setEngine_engines, PerHead.set_set]
    rfl
  · rw [State.engineSample_of_rejected he hr hv]
    simp only [State.modifyOccupation, OccCounts.reject_eq]
  · intro k counted u
    have hsample : s.engineSample h x = u.targetReached h := by
      rw [State.engineSample_of_accepted he hr hv, State.integrateSample_eq ho ht]
      simp only [OccCounts.accept_eq]
      rfl
    have hcounts : (counted o).counts = u.countsOf w.occupation :=
      ((State.countsOf_placeOwed _ h _).trans
        (State.countsOf_of_get (by simp [Table.get_modify, ho]))).symm
    obtain ⟨g₁, hengine⟩ : ∃ g₁, u.engines.get h = .integrating w g₁ :=
      State.engine_placeOwed_of_integrating (PerHead.get_set_same _ _ _)
    change ((counted o).counts.accepted < w.target → _)
      ∧ (w.target ≤ (counted o).counts.accepted → _)
    rw [hsample, hcounts]
    refine ⟨State.targetReached_of_short hengine, fun hn => ⟨fun hj => ?_, fun grade g' hj he' ho' => ?_⟩⟩
    · rw [State.targetReached_of_reached hengine hn, State.endIntegration_of_noisy hengine hj]
      exact State.failedTo_failOccupation (Engine.session?_integrating hengine) .noisy
    · rw [State.targetReached_of_reached he' hn, State.endIntegration_of_owed he' ho' hj]

end Sys2Proof.Machine
end

section
/-! The end of a tide evaluation: its result at a head, at a TIDE_REDO, or at nobody (R56, R103 to R106,
R138, R139, R141). -/

namespace Sys2Proof.Machine

/-! ## The result and its source -/

/-- The tide value an evaluation computes (R105). -/
def Evaluation.result (e : Evaluation) : TideValue :=
  ⟨tideCorrection e.constituents e.request.instant e.request.latitude e.request.longitude,
    e.request.coordGen, e.tableGen⟩

/-- The state with the evaluation's slot EMPTY and the engine free (R103). -/
def State.freed (s : State) (e : Evaluation) : State :=
  { s with tide := { s.tide.setSlot e.source .empty with evaluation := none } }

section

variable {s : State} {e : Evaluation} (hrun : s.running = true) (he : s.tide.evaluation = some e)

include hrun he

theorem exec_tideEvaluationComplete_of_void (hv : e.isVoid = true) :
    exec .tideEvaluationComplete s
      = .next (State.startEvaluation { s with tide := { s.tide with evaluation := none } }) := by
  rw [exec, execTideEvaluationComplete, State.whenRunning_of_running hrun, State.completeEvaluation, he]
  exact congrArg Host.Outcome.next (if_pos hv)

/-- The source goes before the free engine's choice (log 13). -/
theorem exec_tideEvaluationComplete_of_head (hv : e.isVoid = false) {h : Head}
    (hsrc : e.source = .head h) :
    exec .tideEvaluationComplete s
      = .next ((s.freed e).engineResult h e.request.target e.request.step e.result).startEvaluation := by
  rw [exec, execTideEvaluationComplete, State.whenRunning_of_running hrun, State.completeEvaluation, he]
  dsimp only
  rw [hv, hsrc, State.freed, hsrc]
  rfl

theorem exec_tideEvaluationComplete_of_revision (hv : e.isVoid = false) (hsrc : e.source = .revision) :
    exec .tideEvaluationComplete s
      = .next ((s.freed e).redoResult e.request.target e.request.step e.result).startEvaluation := by
  rw [exec, execTideEvaluationComplete, State.whenRunning_of_running hrun, State.completeEvaluation, he]
  dsimp only
  rw [hv, hsrc, State.freed, hsrc]
  rfl

end

theorem State.freed_of_head {s : State} {e : Evaluation} {h : Head} (hsrc : e.source = .head h) :
    s.freed e = { s with tide := { s.tide with
      headSlots := s.tide.headSlots.set h .empty, evaluation := none } } := by
  rw [State.freed, hsrc]
  rfl

theorem State.freed_of_revision {s : State} {e : Evaluation} (hsrc : e.source = .revision) :
    s.freed e = { s with tide := { s.tide with revisionSlot := .empty, evaluation := none } } := by
  rw [State.freed, hsrc]
  rfl

/-! ## A result at a head -/

section

variable {s : State} {h : Head} {w : Session} {g : Integration}

theorem State.engineResult_of_owed (hi : (s.engines.get h).integration? = some (w, g)) {step : Nat}
    (ho : ∃ y ∈ g.owed, y.index = step) (v : TideValue) :
    s.engineResult h w.occupation step v
      = (((s.modifyOccupation w.occupation fun o =>
          { o with steps := deliverStep step v o.steps }).setEngine h ((s.engines.get h).withOwed
            (g.owed.filter fun y => y.index != step))).placeOwed h).closeIfReady h := by
  rw [State.engineResult, hi]
  exact if_pos ⟨rfl, by simpa using ho⟩

theorem State.engineResult_of_other (hi : (s.engines.get h).integration? = some (w, g))
    {target step : Nat} (ho : target ≠ w.occupation ∨ ∀ y ∈ g.owed, y.index ≠ step) (v : TideValue) :
    s.engineResult h target step v = s.placeOwed h := by
  rw [State.engineResult, hi]
  refine if_neg fun ⟨ht, hany⟩ => ?_
  obtain ⟨y, hy, hstep⟩ := List.any_eq_true.1 hany
  exact ho.elim (fun hne => hne ht) fun hne => hne y hy (beq_iff_eq.1 hstep)

theorem State.engineResult_of_not_integrating (hi : (s.engines.get h).integration? = none)
    (target step : Nat) (v : TideValue) : s.engineResult h target step v = s := by
  rw [State.engineResult, hi]

theorem Engine.integration?_withOwed {e : Engine} (hi : e.integration? = some (w, g))
    (owed : List OwedStep) :
    (e.withOwed owed).integration? = some (w, { g with owed := owed }) := by
  cases e <;> cases hi <;> rfl

theorem Engine.code_withOwed (e : Engine) (owed : List OwedStep) : (e.withOwed owed).code = e.code := by
  cases e <;> rfl

/-- An integrating engine, and a reducing one with steps owed, does not close (R63). -/
theorem State.closeIfReady_of_owed (hi : (s.engines.get h).integration? = some (w, g))
    (ho : (s.engines.get h).code = 2 ∨ g.owed ≠ []) : s.closeIfReady h = s := by
  unfold State.closeIfReady
  split
  · next he =>
    rw [he] at hi ho
    cases hi
    exact if_neg fun hnil => ho.elim nofun fun hne => hne (List.isEmpty_iff.1 hnil)
  · rfl

/-- After a delivery that leaves the engine integrating or owing, the head places its next request
(R56). -/
theorem State.engineResult_of_more_owed (hi : (s.engines.get h).integration? = some (w, g)) {step : Nat}
    (ho : ∃ y ∈ g.owed, y.index = step)
    (hmore : (s.engines.get h).code = 2 ∨ ∃ y ∈ g.owed, y.index ≠ step) (v : TideValue) :
    s.engineResult h w.occupation step v
      = ((s.modifyOccupation w.occupation fun o =>
          { o with steps := deliverStep step v o.steps }).setEngine h ((s.engines.get h).withOwed
            (g.owed.filter fun y => y.index != step))).placeOwed h := by
  rw [State.engineResult_of_owed hi ho]
  generalize hu : ((s.modifyOccupation w.occupation fun o =>
    { o with steps := deliverStep step v o.steps }).setEngine h _) = u
  have hengine : u.engines.get h
      = (s.engines.get h).withOwed (g.owed.filter fun y => y.index != step) := by
    rw [← hu]
    exact PerHead.get_set_same _ _ _
  have hiu := Engine.integration?_withOwed hi (g.owed.filter fun y => y.index != step)
  rw [← hengine] at hiu
  obtain ⟨owed, hplaced, hnil⟩ := State.engine_placeOwed hiu
  refine State.closeIfReady_of_owed (w := w) (g := { g with owed := owed }) ?_ ?_
  · rw [hplaced]
    exact Engine.integration?_withOwed hiu owed
  · rw [hplaced, hengine, Engine.code_withOwed, Engine.code_withOwed]
    refine hmore.imp_right fun ⟨y, hy, hne⟩ hz => ?_
    exact List.filter_eq_nil_iff.1 (hnil.1 hz) y hy (bne_iff_ne.2 hne)

end

/-! ## A result at a TIDE_REDO -/

section

variable {s : State} {n k : Nat} {held : List HeldResult}

theorem State.redoResult_of_more {k' : Nat} {ks : List Nat}
    (hf : s.inFlight = some (.tideRedo n held (k :: k' :: ks))) (v : TideValue) :
    s.redoResult n k v = State.requestRedoStep
      { s with inFlight := some (.tideRedo n (held ++ [⟨k, v⟩]) (k' :: ks)) } := by
  rw [State.redoResult, hf]
  exact if_pos ⟨rfl, rfl⟩

theorem State.redoResult_of_last (hf : s.inFlight = some (.tideRedo n held [k])) (v : TideValue) :
    s.redoResult n k v = State.revise true (s.completeRedo n (held ++ [⟨k, v⟩])) := by
  rw [State.redoResult, hf]
  exact if_pos ⟨rfl, rfl⟩

theorem State.redoResult_of_other {target step : Nat}
    (h : ∀ n held k ks, s.inFlight = some (.tideRedo n held (k :: ks)) → target ≠ n ∨ step ≠ k)
    (v : TideValue) : s.redoResult target step v = s := by
  unfold State.redoResult
  split
  · next n held k ks hf =>
    exact if_neg fun ⟨ht, hk⟩ => (h n held k ks hf).elim (fun hne => hne ht) fun hne => hne hk
  · rfl

end

theorem State.requestRedoStep_of_awaited {s : State} {n k : Nat} {held : List HeldResult}
    {ks : List Nat} {o : Occupation} {st : Station}
    (hf : s.inFlight = some (.tideRedo n held (k :: ks))) (ho : Table.get s.occupations n = some o)
    (hst : Table.get s.stations o.station = some st) :
    s.requestRedoStep = s.placeRequest .revision
      ⟨n, k, 30 * k + 15, st.latitude, st.longitude, st.coordGen⟩ := by
  rw [State.requestRedoStep, hf]
  dsimp only
  rw [ho]
  dsimp only
  rw [hst]
  rfl

/-! ## Drift applications owed -/

/-- A DRIFT_APPLY that joins the queue makes its loop CLOSING (R134). -/
theorem State.get_loops_queueItem (s : State) (i : RevItem) (j : Nat) :
    Table.get (s.queueItem i).loops j = (Table.get s.loops j).map fun l =>
      if i = ⟨.driftApply, j⟩ then { l with state := .closing } else l := by
  obtain ⟨kind, t⟩ := i
  cases kind
  case driftApply =>
    simp only [State.queueItem, State.modifyLoop_loops, Table.get_modify, ite_map_self,
      RevItem.mk.injEq, true_and, eq_comm (a := t)]
  all_goals simp [State.queueItem]

theorem State.get_loops_queueAll (is : List RevItem) (j : Nat) :
    ∀ s : State, Table.get (s.queueAll is).loops j = (Table.get s.loops j).map fun l =>
      if ⟨.driftApply, j⟩ ∈ is then { l with state := .closing } else l := by
  induction is with
  | nil => simp [State.queueAll]
  | cons i is ih =>
    intro s
    change Table.get ((s.queueItem i).queueAll is).loops j = _
    rw [ih, State.get_loops_queueItem, Option.map_map]
    congr 1
    funext l
    simp only [Function.comp, List.mem_cons, eq_comm (a := i)]
    by_cases hi : ⟨.driftApply, j⟩ = i <;> by_cases his : ⟨.driftApply, j⟩ ∈ is <;>
      simp [hi, his]

/-- An application that waits is not lost while items are taken: it waits on, deferred or not, or goes into
flight (R136). -/
theorem takeItems_applyOwed {j : Nat} (fuel : Nat) (s : State) :
    s.applyOwed j → (takeItems fuel s).applyOwed j := by
  have waits {s : State} {i : RevItem} {rest : List RevItem} (hf : s.inFlight = none)
      (hq : s.revQueue = i :: rest) (h : s.applyOwed j) :
      ⟨.driftApply, j⟩ = i ∨ ⟨.driftApply, j⟩ ∈ rest := by
    rw [State.applyOwed, State.applying, hf, hq] at h
    exact List.mem_cons.1 (h.resolve_right nofun)
  refine takeItems_keeps (P := fun u => u.applyOwed j) ?_ ?_ ?_ ?_ fuel s
  · intro s i rest hf hq hk h
    obtain ⟨st, m, hp⟩ := State.processStation_frame { s with revQueue := rest } i.target
    rw [hp]
    rcases waits hf hq h with rfl | hm
    · cases hk
    · exact .inl hm
  · intro s i rest hf hq hk h
    obtain ⟨f, t, hr⟩ := State.takeRedo_frame { s with revQueue := rest } i.target
    rw [hr]
    rcases waits hf hq h with rfl | hm
    · cases hk
    · exact .inl hm
  · intro s i rest hf hq hk h
    exact .inl (List.mem_append.2 ((waits hf hq h).symm.imp_right (List.mem_singleton.2 ·)))
  · intro s i rest hf hq hk h
    rcases waits hf hq h with rfl | hm
    · exact .inr rfl
    · exact .inl hm

theorem State.applyOwed_revise {s : State} (b : Bool) {j : Nat} (h : s.applyOwed j) :
    (State.revise b s).applyOwed j := by
  obtain ⟨n, hr⟩ := s.revise_cases b
  rw [hr]
  exact takeItems_applyOwed _ s h

/-! ## A TIDE_REDO completed -/

/-- The applied loops whose rate rests on an occupation: the one it closes, then the one it opens (R141
part 5). -/
def State.restingLoops (s : State) (n : Nat) (o : Occupation) : List Nat :=
  s.appliedLoop (s.closesLoop n o) ++ s.appliedLoop o.anchorsLoop

theorem State.closesLoop_eq_some {s : State} {n j : Nat} {o : Occupation} :
    s.closesLoop n o = some j
      ↔ o.driftLoop = some j ∧ ∃ l, Table.get s.loops j = some l ∧ l.closer = some n := by
  unfold State.closesLoop
  cases o.driftLoop with
  | none => simp
  | some k =>
    simp only [Option.bind_eq_some_iff, Option.some.injEq, ite_eq_iff, reduceCtorEq, and_false, or_false]
    exact ⟨fun ⟨h, hk⟩ => ⟨hk, hk ▸ h⟩, fun ⟨hk, h⟩ => ⟨hk ▸ h, hk⟩⟩

theorem State.mem_appliedLoop {s : State} {x : Option Nat} {j : Nat} :
    j ∈ s.appliedLoop x
      ↔ x = some j ∧ ∃ l, Table.get s.loops j = some l ∧ (l.state = .closed ∨ l.state = .suspect) := by
  cases x with
  | none => simp [State.appliedLoop]
  | some k =>
    have happlied : ((Table.get s.loops k).map Loop.applied).getD false = true
        ↔ ∃ l, Table.get s.loops k = some l ∧ (l.state = .closed ∨ l.state = .suspect) := by
      cases Table.get s.loops k <;> simp [Loop.applied]
    simp only [State.appliedLoop, Option.some.injEq]
    split
    · next h =>
      rw [List.mem_singleton]
      exact ⟨fun hj => ⟨hj.symm, hj ▸ happlied.1 h⟩, fun ⟨hk, _⟩ => hk.symm⟩
    · next h => exact ⟨nofun, fun ⟨hk, hl⟩ => absurd (happlied.2 (hk ▸ hl)) h⟩

theorem State.mem_restingLoops {s : State} {n j : Nat} {o : Occupation} {l : Loop}
    (hl : Table.get s.loops j = some l) :
    j ∈ s.restingLoops n o
      ↔ (l.state = .closed ∨ l.state = .suspect)
        ∧ ((o.driftLoop = some j ∧ l.closer = some n) ∨ o.anchorsLoop = some j) := by
  simp only [State.restingLoops, List.mem_append, State.mem_appliedLoop, State.closesLoop_eq_some, hl,
    Option.some.injEq, exists_eq_left']
  rw [← or_and_right, and_comm]

section

variable {s : State} {n : Nat} {o : Occupation} (ho : Table.get s.occupations n = some o)
  (held : List HeldResult)

include ho

theorem State.completeRedo_of_get :
    s.completeRedo n held
      = (({ s with inFlight := none }.modifyOccupation n (Occupation.redone held)).queueAll
          ((s.restingLoops n o).map fun l => ⟨.driftApply, l⟩)).queueItem
            ⟨.stationValue, o.station⟩ := by
  rw [State.completeRedo, ho]
  rfl

theorem State.occupations_completeRedo :
    (s.completeRedo n held).occupations = Table.modify s.occupations n (Occupation.redone held) := by
  rw [State.completeRedo_of_get ho]
  exact State.occupations_queueAll _ _

theorem State.get_loops_completeRedo {j : Nat} {l : Loop} (hl : Table.get s.loops j = some l) :
    Table.get (s.completeRedo n held).loops j
      = some (if j ∈ s.restingLoops n o then { l with state := .closing } else l) := by
  rw [State.completeRedo_of_get ho, State.get_loops_queueItem, State.get_loops_queueAll]
  simp [hl]

theorem State.applyOwed_completeRedo {j : Nat} (hj : j ∈ s.restingLoops n o) :
    (s.completeRedo n held).applyOwed j := by
  rw [State.completeRedo_of_get ho]
  exact .inl (State.mem_revQueue_queueItem.2 (.inr ((State.mem_revQueue_queueAll _).2
    (.inl (List.mem_map.2 ⟨j, hj, rfl⟩)))))

theorem State.valueFollows_completeRedo : (s.completeRedo n held).valueFollows o.station := by
  rw [State.completeRedo_of_get ho]
  exact .inl (State.mem_revQueue_queueItem.2 (.inl rfl))

end

theorem Occupation.redone_eq (held : List HeldResult) (o : Occupation) :
    ∃ mean : Int, o.redone held = { o with
        steps := o.steps.map (TideStep.redone held), tideMean := some mean, tideStale := false
        value := some (o.readingMean.getD 0 + mean - o.drift.getD 0) }
      ∧ mean = tideMeanOf (o.redone held).steps o.counts.accepted :=
  ⟨_, rfl, rfl⟩

/-- The state after a completed TIDE_REDO, the Revision Engine and the free Tide Engine gone on (R136,
R137, R103). -/
def State.afterRedo (s : State) (n : Nat) (held : List HeldResult) : State :=
  (State.revise true (s.completeRedo n held)).startEvaluation

theorem State.afterRedo_frame (s : State) (n : Nat) (held : List HeldResult) :
    ∃ q f t st m, s.afterRedo n held = { s with
      occupations := (s.completeRedo n held).occupations
      loops := (s.completeRedo n held).loops
      revQueue := q, inFlight := f, tide := t, stations := st, notices := m } := by
  obtain ⟨oc, q, l, st, hc⟩ := s.completeRedo_frame n held
  obtain ⟨q', f, t, st', m, hr⟩ := State.revise_frame true (s.completeRedo n held)
  obtain ⟨t', hs⟩ := (State.revise true (s.completeRedo n held)).startEvaluation_frame
  rw [State.afterRedo, hs, hr, hc]
  exact ⟨q', f, t', st', m, rfl⟩

theorem State.applyOwed_afterRedo {s : State} {n j : Nat} {held : List HeldResult}
    (h : (s.completeRedo n held).applyOwed j) : (s.afterRedo n held).applyOwed j := by
  obtain ⟨t, ht⟩ := (State.revise true (s.completeRedo n held)).startEvaluation_frame
  rw [State.afterRedo, ht]
  exact State.applyOwed_revise true h

theorem State.valueFollows_afterRedo {s : State} {n x : Nat} {held : List HeldResult}
    (h : (s.completeRedo n held).valueFollows x) : (s.afterRedo n held).valueFollows x := by
  obtain ⟨t, ht⟩ := (State.revise true (s.completeRedo n held)).startEvaluation_frame
  rw [State.afterRedo, ht]
  exact State.valueFollows_revise true h

theorem State.get_occupations_afterRedo {s : State} {n : Nat} {o : Occupation}
    (ho : Table.get s.occupations n = some o) (held : List HeldResult) (m : Nat) :
    Table.get (s.afterRedo n held).occupations m
      = if m = n then some (o.redone held) else Table.get s.occupations m := by
  obtain ⟨q, f, t, st, x, h⟩ := s.afterRedo_frame n held
  rw [h, State.occupations_completeRedo ho, Table.get_modify]
  split
  · next hm => rw [hm, ho, Option.map_some]
  · rfl

theorem State.get_loops_afterRedo {s : State} {n j : Nat} {o : Occupation} {l : Loop}
    (ho : Table.get s.occupations n = some o) (held : List HeldResult)
    (hl : Table.get s.loops j = some l) :
    Table.get (s.afterRedo n held).loops j
      = some (if j ∈ s.restingLoops n o then { l with state := .closing } else l) := by
  obtain ⟨q, f, t, st, x, h⟩ := s.afterRedo_frame n held
  rw [h, State.get_loops_completeRedo ho held hl]

/-- A loop that is not applied, or does not rest on the occupation, keeps its state (R141 part 5). -/
theorem State.not_mem_restingLoops {s : State} {n j : Nat} {o : Occupation} {l : Loop}
    (hl : Table.get s.loops j = some l)
    (h : l.state = .opened ∨ l.state = .closing
      ∨ (¬(o.driftLoop = some j ∧ l.closer = some n) ∧ o.anchorsLoop ≠ some j)) :
    j ∉ s.restingLoops n o := by
  rw [State.mem_restingLoops hl]
  rintro ⟨hs, hrest⟩
  obtain hopen | hclosing | ⟨hcloses, hopens⟩ := h
  · simp [hopen] at hs
  · simp [hclosing] at hs
  · exact hrest.elim hcloses hopens

/-- Settles O43: void, at a head, at a TIDE_REDO or discarded; then the choice of the free engine. -/
theorem evaluationDeliversItsStep : Obligations.EvaluationDeliversItsStep := by
  refine ⟨fun e s hrun he => ?_, fun s => ⟨State.startEvaluation_of_busy, ?_, ?_,
    fun src r h => State.placeRequest_of_empty h r, fun src r h => State.placeRequest_of_taken h r,
    fun n held k ks o st hf ho hst => State.requestRedoStep_of_awaited hf ho hst,
    fun src h => State.withdraw_of_empty h, fun src r h => State.withdraw_of_waiting h,
    fun src r h => State.withdraw_of_evaluating h⟩⟩
  · intro v
    have hresult : e.result = v := rfl
    clear_value v
    refine ⟨exec_tideEvaluationComplete_of_void hrun he, fun h hv hsrc => ?_, fun hv hsrc => ?_⟩
    · have hexec := exec_tideEvaluationComplete_of_head hrun he hv hsrc
      rw [hresult] at hexec
      refine ⟨fun w g hi ht ho hmore => ?_, fun w g hi hother => ?_, fun hi => ?_⟩
      · rw [hexec, ht, State.engineResult_of_more_owed (s := s.freed e) hi ho hmore,
          State.freed_of_head hsrc]
        rfl
      · rw [hexec, State.engineResult_of_other (s := s.freed e) hi hother, State.freed_of_head hsrc]
      · rw [hexec, State.engineResult_of_not_integrating (s := s.freed e) hi, State.freed_of_head hsrc]
    · have hexec := exec_tideEvaluationComplete_of_revision hrun he hv hsrc
      rw [hresult] at hexec
      refine ⟨fun n held k k' ks hf ht hk => ?_, fun n held k o hf ht hk ho => ?_, fun hother => ?_⟩
      · rw [hexec, ht, hk, State.redoResult_of_more (s := s.freed e) hf, State.freed_of_revision hsrc]
      · rw [ht, hk, State.redoResult_of_last (s := s.freed e) hf,
          ← State.afterRedo] at hexec
        have ho' : Table.get (s.freed e).occupations n = some o := ho
        obtain ⟨mean, hredone, hmean⟩ := o.redone_eq (held ++ [⟨k, v⟩])
        refine ⟨_, hexec,
          ⟨_, mean, ?_, hredone, hmean⟩, fun m hm => ?_,
          fun j l hl hs hrest => ?_, fun j l hl hother => ?_,
          State.valueFollows_afterRedo (State.valueFollows_completeRedo ho' _), ?_⟩
        · rw [State.get_occupations_afterRedo ho', if_pos rfl]
        · rw [State.get_occupations_afterRedo ho', if_neg hm]
          rfl
        · have hj := (State.mem_restingLoops (s := s.freed e) hl).2 ⟨hs, hrest⟩
          rw [State.get_loops_afterRedo ho' _ hl, if_pos hj]
          exact ⟨rfl, State.applyOwed_afterRedo (State.applyOwed_completeRedo ho' _ hj)⟩
        · rw [State.get_loops_afterRedo ho' _ hl,
            if_neg (State.not_mem_restingLoops (s := s.freed e) hl hother)]
        · obtain ⟨q, f, t, st, m, hframe⟩ := (s.freed e).afterRedo_frame n (held ++ [⟨k, v⟩])
          rw [hframe]
          exact ⟨rfl, rfl, rfl, rfl, rfl, rfl⟩
      · rw [hexec, State.redoResult_of_other (s := s.freed e) hother, State.freed_of_revision hsrc]
  · rintro src r he (⟨h, before, after, rfl, hp, hr, hb⟩ | ⟨rfl, hr, hb⟩)
    · exact State.startEvaluation_of_chosen he (TideEngine.choose_of_head hp hr hb)
    · exact State.startEvaluation_of_chosen he ((TideEngine.choose_of_no_head hb).trans
        (TideEngine.waiting_eq_some.2 ⟨rfl, hr⟩))
  · exact fun hr hb => State.startEvaluation_of_none ((TideEngine.choose_of_no_head hb).trans
      (TideEngine.waiting_eq_none.2 hr))

end Sys2Proof.Machine
end

section
/-! The Revision Engine and the Drift Unit look neither at the engines nor at the link: their operations
commute with a change of these. And what a handover and taking items keep of notices and of the queue. -/

namespace Sys2Proof.Machine

/-! ## The engines and the link exchanged -/

/-- The part of the state that requests and samples write and the Revision Engine and the Drift Unit do not
look at: the engines, the link and MISO. -/
structure Front where
  engines : PerHead Engine
  link : LinkState
  lastRejected : Bool
  miso : List Byte

/-- A state's engines, link and MISO. -/
def State.front (s : State) : Front := ⟨s.engines, s.link, s.lastRejected, s.miso⟩

/-- The state with another's engines, link and MISO. -/
def State.withFront (s : State) (F : Front) : State :=
  { s with engines := F.engines, link := F.link, lastRejected := F.lastRejected, miso := F.miso }

section

variable (s : State) (F : Front)

@[simp] theorem State.withFront_stations : (s.withFront F).stations = s.stations := rfl
@[simp] theorem State.withFront_occupations : (s.withFront F).occupations = s.occupations := rfl
@[simp] theorem State.withFront_loops : (s.withFront F).loops = s.loops := rfl
@[simp] theorem State.withFront_tide : (s.withFront F).tide = s.tide := rfl
@[simp] theorem State.withFront_revQueue : (s.withFront F).revQueue = s.revQueue := rfl
@[simp] theorem State.withFront_inFlight : (s.withFront F).inFlight = s.inFlight := rfl
@[simp] theorem State.withFront_constants : (s.withFront F).constants = s.constants := rfl
@[simp] theorem State.openLoop_withFront (h : Head) : (s.withFront F).openLoop h = s.openLoop h := rfl
@[simp] theorem State.roleOf_withFront (k : Nat) : (s.withFront F).roleOf k = s.roleOf k := rfl
@[simp] theorem State.contributing_withFront (chain : List Nat) :
    (s.withFront F).contributing chain = s.contributing chain := rfl
@[simp] theorem State.deferred_withFront (k : Nat) : (s.withFront F).deferred k = s.deferred k := rfl
@[simp] theorem State.staleAtClose_withFront (o : Occupation) :
    (s.withFront F).staleAtClose o = s.staleAtClose o := rfl

theorem State.withFront_ite (c : Prop) [Decidable c] (t : State) :
    (if c then s else t).withFront F = if c then s.withFront F else t.withFront F :=
  apply_ite (State.withFront · F) c s t

theorem State.queueItem_withFront (i : RevItem) :
    (s.withFront F).queueItem i = (s.queueItem i).withFront F := by
  obtain ⟨k, t⟩ := i
  cases k <;> rfl

theorem State.startLoop_withFront (n : Nat) (o : Occupation) (a : Bool) :
    (s.withFront F).startLoop n o a = (s.startLoop n o a).withFront F := by
  simp only [State.startLoop, State.withFront_loops]
  split <;> rfl

theorem State.handOver_withFront (n : Nat) :
    (s.withFront F).handOver n = (s.handOver n).withFront F := by
  cases ho : Table.get s.occupations n with
  | none => simp only [State.handOver, State.withFront_occupations, ho]
  | some o =>
    cases hl : s.openLoop o.head with
    | none =>
      simp only [State.handOver, State.withFront_occupations, ho, State.openLoop_withFront, hl,
        State.roleOf_withFront, State.withFront_ite, State.startLoop_withFront]
    | some e =>
      obtain ⟨k, l⟩ := e
      simp only [State.handOver, State.withFront_occupations, ho, State.openLoop_withFront, hl]
      split
      · unfold State.closeLoop
        rw [← State.startLoop_withFront, ← State.queueItem_withFront]
        rfl
      · unfold State.joinLoop
        split <;> rfl

theorem State.placeRequest_withFront (src : TideSource) (r : TideRequest) :
    (s.withFront F).placeRequest src r = (s.placeRequest src r).withFront F := by
  have hstart (u : State) : (u.withFront F).startEvaluation = u.startEvaluation.withFront F := by
    cases he : u.tide.evaluation with
    | some e => simp only [State.startEvaluation, State.withFront_tide, he]
    | none =>
      cases hc : u.tide.choose with
      | none => simp only [State.startEvaluation, State.withFront_tide, he, hc]
      | some c =>
        simp only [State.startEvaluation, State.withFront_tide, he, hc]
        rfl
  simp only [State.placeRequest, State.withFront_tide]
  split
  · exact hstart { s with tide := { s.tide.setSlot src (.waiting r) with
      placed := s.tide.placed ++ [src] } }
  · rfl

theorem State.requestRedoStep_withFront :
    (s.withFront F).requestRedoStep = s.requestRedoStep.withFront F := by
  simp only [State.requestRedoStep, State.withFront_inFlight, State.withFront_occupations,
    State.withFront_stations]
  split
  · split
    · split
      · exact s.placeRequest_withFront F _ _
      · rfl
    · rfl
  · rfl

theorem State.processStation_withFront (k : Nat) :
    (s.withFront F).processStation k = (s.processStation k).withFront F := by
  simp only [State.processStation, State.withFront_stations, State.contributing_withFront,
    State.withFront_constants]
  split
  · rfl
  · rw [State.withFront_ite]
    exact ite_congr rfl (fun _ => rfl) fun _ => rfl

theorem State.takeRedo_withFront (n : Nat) :
    (s.withFront F).takeRedo n = (s.takeRedo n).withFront F :=
  State.requestRedoStep_withFront { s with inFlight := some (.tideRedo n []
    ((((Table.get s.occupations n).map Occupation.steps).getD []).map TideStep.index)) } F

end

theorem takeItems_withFront (F : Front) (fuel : Nat) :
    ∀ s : State, takeItems fuel (s.withFront F) = (takeItems fuel s).withFront F := by
  induction fuel with
  | zero => exact fun _ => rfl
  | succ fuel ih =>
    intro s
    simp only [takeItems, State.withFront_inFlight, State.withFront_revQueue,
      State.deferred_withFront]
    split
    · next i rest hf hq =>
      split
      · exact (congrArg (takeItems fuel)
          (State.processStation_withFront { s with revQueue := rest } F i.target)).trans (ih _)
      · exact State.takeRedo_withFront { s with revQueue := rest } F i.target
      · rw [State.withFront_ite]
        exact ite_congr rfl (fun _ => ih { s with revQueue := rest ++ [i] }) fun _ => rfl
    · rfl

theorem State.revise_withFront (b : Bool) (s : State) (F : Front) :
    State.revise b (s.withFront F) = (State.revise b s).withFront F := by
  have htake : takeItems s.revQueue.length (s.withFront F)
      = (takeItems s.revQueue.length s).withFront F := takeItems_withFront F _ s
  unfold State.revise
  simp only [State.withFront_revQueue, htake]
  rw [State.withFront_ite]
  exact ite_congr rfl (fun _ => rfl) fun _ => rfl

/-! ## Notices set -/

theorem Notice.getLsbD_flag (n : Notice) : n.flag.getLsbD n.position = true := by
  cases n with
  | headLost h => cases h <;> rfl
  | occEnded h => cases h <;> rfl
  | _ => rfl

theorem State.hasNotice_setNotice_self (s : State) (n : Notice) : (s.setNotice n).hasNotice n := by
  rw [State.hasNotice, State.setNotice, BitVec.getLsbD_or, n.getLsbD_flag, Bool.or_true]

theorem State.hasNotice.setNotice {s : State} {n : Notice} (h : s.hasNotice n) (m : Notice) :
    (s.setNotice m).hasNotice n := by
  rw [State.hasNotice, State.setNotice, BitVec.getLsbD_or, show s.notices.getLsbD n.position = true from h,
    Bool.true_or]

theorem State.hasNotice_processStation {s : State} {n : Notice} (h : s.hasNotice n) (k : Nat) :
    (s.processStation k).hasNotice n := by
  unfold State.processStation
  split
  · exact h
  · dsimp only
    split
    · exact State.hasNotice.setNotice (s := s.modifyStation k _) h _
    · exact h

/-- The Revision Engine clears no notice. -/
theorem State.hasNotice_revise {s : State} {n : Notice} (b : Bool) (h : s.hasNotice n) :
    (State.revise b s).hasNotice n := by
  have htaken : (takeItems s.revQueue.length s).hasNotice n := by
    refine takeItems_keeps (P := fun u => u.hasNotice n)
      (fun u i rest _ _ _ hu => State.hasNotice_processStation (s := { u with revQueue := rest }) hu _)
      (fun u i rest _ _ _ hu => ?_) (fun _ _ _ _ _ _ hu => hu) (fun _ _ _ _ _ _ hu => hu) _ s h
    obtain ⟨f, t, hr⟩ := State.takeRedo_frame { u with revQueue := rest } i.target
    rw [hr]
    exact hu
  unfold State.revise
  dsimp only
  split
  · exact htaken.setNotice _
  · exact htaken

/-! ## What a handover keeps -/

theorem Table.get_modify_self {α : Type} {t : Table α} {k : Nat} {a : α} {f : α → α}
    (h : Table.get t k = some a) : Table.get (Table.modify t k f) k = some (f a) := by
  rw [Table.get_modify, if_pos rfl, h, Option.map_some]

/-- A handover queues at most (R115, R116). -/
theorem State.mem_revQueue_handOver {s : State} {i : RevItem} (n : Nat) (h : i ∈ s.revQueue) :
    i ∈ (s.handOver n).revQueue := by
  have hstart (u : State) (q : Occupation) (a : Bool) : (u.startLoop n q a).revQueue = u.revQueue := by
    obtain ⟨oc, l, nt, hu⟩ := u.startLoop_frame n q a
    rw [hu]
  unfold State.handOver
  split
  · exact h
  · split
    · split
      · rw [State.closeLoop, hstart]
        exact State.mem_revQueue_queueItem.2 (.inr h)
      · unfold State.joinLoop
        split <;> exact h
    · split
      · rwa [hstart]
      · exact h

/-- `o'` is `o` but for its loops, its D and its V = S̄ + T̄ − D (R87, R114). -/
def Occupation.redrifted (o o' : Occupation) : Prop :=
  ∃ d dl a, o' = { o with
    drift := d, driftLoop := dl, anchorsLoop := a, value := some (o.corrected - d.getD 0) }

theorem Occupation.redrifted_self {o : Occupation}
    (hv : o.value = some (o.corrected - o.drift.getD 0)) : o.redrifted o :=
  ⟨o.drift, o.driftLoop, o.anchorsLoop, by rw [← hv]⟩

theorem Occupation.redrifted.inLoop {o o' : Occupation} (h : o.redrifted o') (k : Nat) :
    o.redrifted { o' with driftLoop := some k } := by
  obtain ⟨d, dl, a, rfl⟩ := h
  exact ⟨d, some k, a, rfl⟩

theorem Occupation.redrifted.anchoring {o o' : Occupation} (h : o.redrifted o') (k : Nat)
    (anchor : Bool) : o.redrifted (o'.anchoring k anchor) := by
  obtain ⟨d, dl, a, rfl⟩ := h
  cases anchor with
  | false => exact ⟨d, dl, some k, rfl⟩
  | true => exact ⟨some 0, dl, some k, rfl⟩

theorem State.startLoop_redrifted {s : State} {n : Nat} {o o' : Occupation}
    (ho : Table.get s.occupations n = some o') (h : o.redrifted o') (q : Occupation) (a : Bool) :
    ∃ x, Table.get (s.startLoop n q a).occupations n = some x ∧ o.redrifted x := by
  unfold State.startLoop
  split
  · exact ⟨o', ho, h⟩
  · next k _ => exact ⟨o'.anchoring k a, Table.get_modify_self ho, h.anchoring k a⟩

/-- A handover changes nothing of the record but its loops, its D and its V (R115 to R118). -/
theorem State.handOver_redrifted {s : State} {n : Nat} {o : Occupation}
    (ho : Table.get s.occupations n = some o)
    (hv : o.value = some (o.corrected - o.drift.getD 0)) :
    ∃ x, Table.get (s.handOver n).occupations n = some x ∧ o.redrifted x := by
  have hself := Occupation.redrifted_self hv
  have hmodify (k : Nat) : Table.get (Table.modify s.occupations n fun o =>
      { o with driftLoop := some k }) n = some { o with driftLoop := some k } :=
    Table.get_modify_self ho
  unfold State.handOver
  rw [ho]
  dsimp only
  split
  · next k l _ =>
    split
    · exact State.startLoop_redrifted (hmodify k) (hself.inLoop k) o false
    · unfold State.joinLoop
      split
      · exact ⟨_, hmodify k, hself.inLoop k⟩
      · exact ⟨o, ho, hself⟩
  · split
    · exact State.startLoop_redrifted ho hself o true
    · exact ⟨o, ho, hself⟩

end Sys2Proof.Machine
end

section
/-! An occupation closed: the parts of R63, and the four ways there (R59 to R64). -/

namespace Sys2Proof.Machine

/-! ## The close -/

/-- The record closed, handed to the Drift Unit and its items queued (R63 parts 1 to 4). -/
def State.handed (s : State) (n : Nat) (o : Occupation) (g : Integration) (grade : Grade) : State :=
  let closed := s.modifyOccupation n (Occupation.close g grade (s.staleAtClose o))
  let queued := if s.staleAtClose o then closed.queueItem ⟨.tideRedo, n⟩ else closed
  (queued.handOver n).queueItem ⟨.stationValue, o.station⟩

/-- The state after a close (R63). -/
def State.closed (s : State) (h : Head) (w : Session) (o : Occupation) (g : Integration)
    (grade : Grade) : State :=
  State.revise s.revisionBusy
    (((s.setEngine h .idle).handed w.occupation o g grade).setNotice (.occEnded h))

theorem State.closedTo_iff {s t : State} {h : Head} {w : Session} {g : Integration} {grade : Grade} :
    s.closedTo t h w g grade
      ↔ ∃ o, Table.get s.occupations w.occupation = some o ∧ t = s.closed h w o g grade :=
  Iff.rfl

section

variable (s : State) (n : Nat) (o : Occupation) (g : Integration) (grade : Grade)

theorem State.handed_frame :
    ∃ oc l q st nt, s.handed n o g grade = { s with
      occupations := oc, loops := l, revQueue := q, stations := st, notices := nt } := by
  choose q l st h using State.queueItem_frame
  choose oc l' q' st' nt h' using State.handOver_frame
  unfold State.handed
  dsimp only
  split <;> simp only [h, h'] <;> exact ⟨_, _, _, _, _, rfl⟩

theorem State.handed_withFront (F : Front) :
    (s.withFront F).handed n o g grade = (s.handed n o g grade).withFront F := by
  unfold State.handed
  rw [← State.queueItem_withFront, ← State.handOver_withFront]
  change (State.handOver (if s.staleAtClose o then _ else _) n).queueItem _ = _
  split
  · rw [← State.queueItem_withFront]
    rfl
  · rfl

end

section

variable (s : State) (h : Head) (w : Session) (o : Occupation) (g : Integration) (grade : Grade)

/-- What a close does beside writing the engine. -/
theorem State.closed_eq :
    s.closed h w o g grade
      = (State.revise s.revisionBusy
          ((s.handed w.occupation o g grade).setNotice (.occEnded h))).withFront
          { s.front with engines := s.engines.set h .idle } := by
  rw [State.closed, ← State.revise_withFront]
  exact congrArg (fun u => State.revise s.revisionBusy (State.setNotice u (.occEnded h)))
    (s.handed_withFront _ _ _ _ { s.front with engines := s.engines.set h .idle })

theorem State.closed_setEngine (e : Engine) :
    (s.setEngine h e).closed h w o g grade = s.closed h w o g grade := by
  rw [State.closed, State.closed, State.setEngine, State.setEngine, PerHead.set_set]
  rfl

/-- The link plays no part in a close. -/
theorem State.closed_taken_respond (tag : Byte) (a : Answer) :
    (s.taken.closed h w o g grade).respond tag a
      = (s.closed h w o g grade).answeredAs s.statusByte tag a := by
  have htaken : s.taken.handed w.occupation o g grade
      = (s.handed w.occupation o g grade).withFront s.taken.front :=
    s.handed_withFront _ _ _ _ s.taken.front
  rw [State.closed_eq, State.closed_eq, htaken]
  change ((State.revise s.revisionBusy (((s.handed w.occupation o g grade).setNotice
    (.occEnded h)).withFront s.taken.front)).withFront _).respond tag a = _
  rw [State.revise_withFront]
  rfl

/-- What a close can change. -/
theorem State.closed_frame :
    ∃ l q f t st n, s.closed h w o g grade = { s with
      engines := s.engines.set h .idle
      occupations := (s.handed w.occupation o g grade).occupations
      loops := l, revQueue := q, inFlight := f, tide := t, stations := st, notices := n } := by
  obtain ⟨oc, l, q, st, nt, hd⟩ := s.handed_frame w.occupation o g grade
  obtain ⟨q', f, t, st', n, hr⟩ := State.revise_frame s.revisionBusy
    ((s.handed w.occupation o g grade).setNotice (.occEnded h))
  rw [State.closed_eq, hr, hd]
  exact ⟨_, _, _, _, _, _, rfl⟩

end

section

variable {s : State} {h : Head} {w : Session} {o : Occupation} {g : Integration} {grade : Grade}
  (ho : Table.get s.occupations w.occupation = some o)

include ho

/-- An engine in REDUCING with no step owed closes its occupation (R63). -/
theorem State.closeIfReady_of_done {d : Ending} (he : s.engines.get h = .reducing w g d grade)
    (hnil : g.owed = []) : s.closeIfReady h = s.closed h w o g grade := by
  have hclose : s.closeOccupation h = State.revise s.revisionBusy
      (((s.handed w.occupation o g grade).setNotice (.occEnded h)).setEngine h .idle) := by
    rw [State.closeOccupation, he]
    dsimp only
    rw [ho]
    rfl
  have hfront : ((s.handed w.occupation o g grade).setNotice (.occEnded h)).setEngine h .idle
      = ((s.handed w.occupation o g grade).setNotice (.occEnded h)).withFront
          { s.front with engines := s.engines.set h .idle } := by
    obtain ⟨oc, l, q, st, nt, hd⟩ := s.handed_frame w.occupation o g grade
    rw [hd]
    rfl
  rw [State.closeIfReady, he]
  dsimp only
  rw [hnil, hclose, hfront, State.revise_withFront, State.closed_eq]
  rfl

/-- With no step owed the end of integration is the close (R59 to R63). -/
theorem State.endIntegration_of_done (he : s.engines.get h = .integrating w g) (hnil : g.owed = [])
    {d : Ending} (hj : judge d o.counts = some grade) :
    s.endIntegration h d = s.closed h w o g grade := by
  rw [← State.countsOf_of_get ho] at hj
  rw [State.endIntegration_of_graded he hj, State.closeIfReady_of_done
    (s := s.setEngine h (.reducing w g d grade)) ho (PerHead.get_set_same _ _ _) hnil,
    State.closed_setEngine]

/-- The close leaves the record written as R63 part 1 says, but for its loops, its D and its V. -/
theorem State.get_occupations_closed :
    ∃ x, Table.get (s.closed h w o g grade).occupations w.occupation = some x
      ∧ (o.close g grade (s.staleAtClose o)).redrifted x := by
  obtain ⟨l, q, f, t, st, n, hframe⟩ := s.closed_frame h w o g grade
  rw [hframe]
  have hget : Table.get (Table.modify s.occupations w.occupation
      (Occupation.close g grade (s.staleAtClose o))) w.occupation
        = some (o.close g grade (s.staleAtClose o)) := Table.get_modify_self ho
  have hqueued (i : RevItem) (u : State) : (u.queueItem i).occupations = u.occupations :=
    State.occupations_queueAll [i] u
  unfold State.handed
  dsimp only
  rw [hqueued]
  refine State.handOver_redrifted ?_ rfl
  split
  · rw [hqueued]
    exact hget
  · exact hget

omit ho

theorem State.redoOwed_closed (hs : s.staleAtClose o = true) :
    (s.closed h w o g grade).redoOwed w.occupation := by
  rw [State.closed_eq]
  refine State.redoOwed_revise s.revisionBusy (.inl ?_)
  rw [State.handed, if_pos hs]
  exact State.mem_revQueue_queueItem.2 (.inr (State.mem_revQueue_handOver _
    (State.mem_revQueue_queueItem.2 (.inl rfl))))

theorem State.valueFollows_closed : (s.closed h w o g grade).valueFollows o.station := by
  rw [State.closed_eq]
  exact State.valueFollows_revise s.revisionBusy (.inl (State.mem_revQueue_queueItem.2 (.inl rfl)))

theorem State.hasNotice_closed : (s.closed h w o g grade).hasNotice (.occEnded h) :=
  State.hasNotice_revise _ (State.hasNotice_setNotice_self _ _)

end

/-! ## The ways to a close -/

section

variable {s : State} {h : Head} {w : Session} {o : Occupation} {g : Integration} {grade : Grade}
  (he : s.engines.get h = .integrating w g) (hnil : g.owed = [])
  (ho : Table.get s.occupations w.occupation = some o)

include he hnil ho

/-- Integration ended by TARGET with no step owed (R59, R63). -/
theorem State.targetReached_of_done (hn : w.target ≤ o.counts.accepted)
    (hj : judge .target o.counts = some grade) : s.targetReached h = s.closed h w o g grade := by
  rw [← State.countsOf_of_get ho] at hn
  rw [State.targetReached_of_reached he hn, State.endIntegration_of_done ho he hnil hj]

/-- Integration ended by CAP with no step owed (R61, R63). -/
theorem State.capIntegration_of_done (hn : w.target ≤ 2 * o.counts.accepted)
    (hj : judge .cap o.counts = some grade) : s.capIntegration h = s.closed h w o g grade := by
  rw [← State.countsOf_of_get ho] at hn
  rw [State.capIntegration_of_half he hn, State.endIntegration_of_done ho he hnil hj]

/-- Integration ended by STOP with no step owed (R60, R63). -/
theorem exec_stopOccupation_of_done (hs : s.serves) (tag : Byte) (hn : 30 ≤ o.counts.accepted)
    (hj : judge .stop o.counts = some grade) :
    exec (.stopOccupation tag (beBytes 1 h.code)) s
      = .next ((s.closed h w o g grade).answeredAs s.statusByte tag
          ⟨.done, beBytes 2 o.counts.accepted ++ [1]⟩) := by
  have hcounts := State.countsOf_of_get ho
  rw [exec_stopOccupation_of_integrating hs tag he,
    State.stopIntegration_of_enough (s := s.taken) he (hcounts.symm ▸ hn),
    State.endIntegration_of_done (s := s.taken) ho he hnil hj, State.closed_taken_respond,
    State.stopReduces_of_graded (hcounts.symm ▸ hn) (hcounts.symm ▸ hj), hcounts]
  rfl

end

/-- The record with an accepted sample of tide step `k` (R54, R56). -/
def Occupation.sampled (k : Nat) (r : Regime) (o : Occupation) : Occupation :=
  { o with counts := o.counts.accept r, steps := addToSteps k o.steps }

/-- The sums with an accepted sample (R54 parts 1 and 2). -/
def Integration.sampled (value : Int) (time : TimeMs) (g : Integration) : Integration :=
  { g with readingSum := g.readingSum + value, timeSum := g.timeSum + time }

/-- The target's sample, its step known and no step owed, closes the occupation (R54, R59, R63). -/
theorem State.engineSample_of_done {u : State} {h : Head} {x : Sample} {at_ : TimeMs} {w : Session}
    {g : Integration} {grade : Grade} {o : Occupation} (he : u.engines.get h = .integrating w g)
    (hnil : g.owed = []) (hr : x.rate = w.rate) (hv : x.verdict = .accepted) (ht : x.time = some at_)
    (ho : Table.get u.occupations w.occupation = some o) (hk : ∃ y ∈ o.steps, y.index = at_ / 30000)
    (hmax : o.counts.accepted < 65535) (hn : w.target ≤ o.counts.accepted + 1)
    (hj : judge .target (o.counts.accept x.regime) = some grade) :
    u.engineSample h x
      = (u.modifyOccupation w.occupation (Occupation.sampled (at_ / 30000) x.regime)).closed h w
          (o.sampled (at_ / 30000) x.regime)
          (g.sampled (sampleValue (u.activeSet h) x) at_) grade := by
  generalize hs : u.modifyOccupation w.occupation (Occupation.sampled (at_ / 30000) x.regime) = s
  generalize hg : g.sampled (sampleValue (u.activeSet h) x) at_ = g'
  have hnil' : g'.owed = [] := by rw [← hg]; exact hnil
  have hknown : o.steps.any (fun y => y.index == at_ / 30000) = true := by simpa using hk
  have hget : Table.get s.occupations w.occupation = some (o.sampled (at_ / 30000) x.regime) := by
    rw [← hs]
    exact Table.get_modify_self ho
  have hplaced : u.integrateSample h w g x = s.setEngine h (.integrating w g') := by
    rw [State.integrateSample_eq ho ht, if_pos hknown, ← hs, ← hg]
    exact State.placeOwed_of_requested (w := w) (g := g.sampled (sampleValue (u.activeSet h) x) at_)
      (by rw [PerHead.get_set_same]; rfl) (by rw [hg, hnil']; exact nofun)
  have hcount : w.target ≤ (o.sampled (at_ / 30000) x.regime).counts.accepted := by
    rw [Occupation.sampled, OccCounts.accept_eq]
    exact Nat.le_trans hn (Nat.le_of_eq (Nat.min_eq_left hmax).symm)
  rw [State.engineSample_of_accepted he hr hv, hplaced,
    State.targetReached_of_done (s := s.setEngine h (.integrating w g')) (PerHead.get_set_same _ _ _)
      hnil' hget hcount hj, State.closed_setEngine]

/-- The record with a tide value delivered for a step (R56, R105). -/
def Occupation.delivered (step : Nat) (v : TideValue) (o : Occupation) : Occupation :=
  { o with steps := deliverStep step v o.steps }

theorem Occupation.delivered_eq (step : Nat) (v : TideValue) :
    Occupation.delivered step v = fun o => { o with steps := deliverStep step v o.steps } :=
  rfl

/-- The result for the last owed step of a reducing engine closes the occupation (R56, R63). -/
theorem State.engineResult_of_done {s : State} {h : Head} {w : Session} {g : Integration} {d : Ending}
    {grade : Grade} {o : Occupation} (he : s.engines.get h = .reducing w g d grade) {step : Nat}
    (howed : g.owed ≠ []) (hstep : ∀ y ∈ g.owed, y.index = step)
    (ho : Table.get s.occupations w.occupation = some o) (v : TideValue) :
    s.engineResult h w.occupation step v
      = (s.modifyOccupation w.occupation (Occupation.delivered step v)).closed h w
          (o.delivered step v) g grade := by
  generalize hu : s.modifyOccupation w.occupation (Occupation.delivered step v) = u
  have hi : (s.engines.get h).integration? = some (w, g) := by rw [he]; rfl
  have hnil : g.owed.filter (fun y => y.index != step) = [] :=
    List.filter_eq_nil_iff.2 fun y hy => by simp [hstep y hy]
  have hget : Table.get u.occupations w.occupation = some (o.delivered step v) := by
    rw [← hu]
    exact Table.get_modify_self ho
  obtain ⟨y, hy⟩ := List.exists_mem_of_ne_nil _ howed
  have hdelivered := State.engineResult_of_owed hi ⟨y, hy, hstep y hy⟩ v
  rw [← Occupation.delivered_eq] at hdelivered
  rw [hdelivered, hu, hnil, he]
  generalize hr : (Engine.reducing w g d grade).withOwed [] = e
  have heu : (u.setEngine h e).engines.get h = .reducing w { g with owed := [] } d grade := by
    rw [← hr]
    exact PerHead.get_set_same _ _ _
  rw [State.placeOwed_of_requested (s := u.setEngine h e) (w := w) (g := { g with owed := [] })
      (by rw [heu]; rfl) nofun,
    State.closeIfReady_of_done (s := u.setEngine h e) hget heu rfl, State.closed_setEngine]
  rfl

/-- The state in which a frame's sample reaches the engine, as `State.handsOn` writes it. -/
theorem State.recorded_eq (s : State) (h : Head) (x : Sample) :
    s.recorded h x = State.engineGap
      { s with
        channels := s.channels.set h
          (Channel.afterFrame { s.channels.get h with lastCharacter := some s.timeBase }
            s.timeBase x) }
      h ((s.channels.get h).missing x.sequence) :=
  rfl

theorem State.recorded_frame (s : State) (h : Head) (x : Sample) :
    ∃ c oc, s.recorded h x = { s with channels := c, occupations := oc } := by
  obtain ⟨oc, hoc⟩ := State.engineGap_frame (s.setChannel h
    ((s.channels.get h).recorded s.timeBase x)) h ((s.channels.get h).missing x.sequence)
  exact ⟨_, oc, hoc⟩

/-- Settles O29: every way to a close ends in the one function of R63; then what that leaves. -/
theorem occupationClosesWithItsMeans : Obligations.OccupationClosesWithItsMeans := by
  refine ⟨fun h w g grade o s hrun he hnil ho => ⟨fun hn hj => ⟨_, ?_, o, ho, rfl⟩,
      fun hdue hn hj => ⟨_, ?_, o, ho, rfl⟩, fun tag hs hn hj => ⟨_, ⟨o, ho, rfl⟩, ?_⟩⟩,
    fun h last x at_ w g grade o s u hrun hon he hnil hr hv ht ho hk hmax hn hj => ?_,
    fun h e w g d grade o s hrun hev hv hsrc he htarget howed hstep ho => ?_,
    fun h w g grade o s t ht ho => ?_⟩
  · rw [exec_targetReached hrun, State.targetReached_of_done he hnil ho hn hj]
    rfl
  · rw [exec_capDeadline_of_due hrun hdue, State.capIntegration_of_done he hnil ho hn hj]
    rfl
  · exact exec_stopOccupation_of_done he hnil ho hs tag hn hj
  · obtain ⟨held, hrec, hl, hvalid, hx, hu⟩ := hon
    have hexec := exec_headFrame_of_valid hrun hrec hl hvalid
    rw [← hx] at hexec
    obtain ⟨c, oc, hrecorded⟩ := s.recorded_frame h x
    have heu : u.engines.get h = .integrating w g := by
      rw [hu, ← State.recorded_eq, hrecorded]
      exact he
    have hset : u.activeSet h = s.activeSet h := by
      rw [hu, ← State.recorded_eq, hrecorded]
      rfl
    rw [State.recorded_eq, ← hu, State.engineSample_of_done heu hnil hr hv ht ho hk hmax hn hj, hset]
      at hexec
    exact ⟨_, hexec, _, Table.get_modify_self (f := Occupation.sampled _ _) ho, rfl⟩
  · have hexec := exec_tideEvaluationComplete_of_head hrun hev hv hsrc
    rw [htarget, State.engineResult_of_done (s := s.freed e) he howed hstep ho,
      State.freed_of_head hsrc] at hexec
    exact ⟨_, hexec, _, Table.get_modify_self (f := Occupation.delivered _ _) ho, rfl⟩
  · obtain ⟨o', ho', rfl⟩ := State.closedTo_iff.1 ht
    cases ho.symm.trans ho'
    obtain ⟨y, hy, d, dl, a, rfl⟩ := State.get_occupations_closed (s := s) (h := h) (g := g)
      (grade := grade) ho
    obtain ⟨l, q, f, t, st, n, hframe⟩ := s.closed_frame h w o g grade
    refine ⟨⟨_, hy, rfl, rfl, rfl, rfl, rfl, rfl, rfl, rfl, rfl, rfl, rfl, rfl⟩,
      State.redoOwed_closed, State.valueFollows_closed, ?_, State.hasNotice_closed, ?_⟩
    · rw [hframe]
    · rw [hframe]
      exact ⟨rfl, rfl, rfl, rfl⟩

end Sys2Proof.Machine
end

section
/-! OPEN_OCCUPATION: its refusals in order, and what an accepted one takes and starts (R48 to R50, R166). -/

namespace Sys2Proof.Machine

/-! ## The operands and the checks -/

theorem OpenOperands.ofPayload_eq (code : Byte) {k d : Nat} (hk : k < 65536) (hd : d < 65536) :
    OpenOperands.ofPayload (code :: (beBytes 2 k ++ beBytes 2 d)) = ⟨code, k, d⟩ := by
  have hslot : fieldNat 1 2 (code :: (beBytes 2 k ++ beBytes 2 d)) = k :=
    fieldNat_of (as := [code]) rfl hk
  have hduration : fieldNat 3 2 (code :: (beBytes 2 k ++ beBytes 2 d)) = d := by
    simpa using fieldNat_of (at_ := 3) (n := 2) (as := code :: beBytes 2 k) (cs := []) (by simp) hd
  rw [OpenOperands.ofPayload, hslot, hduration]
  rfl

theorem exec_openOccupation {s : State} (hs : s.serves) (tag code : Byte) {k d : Nat} (hk : k < 65536)
    (hd : d < 65536) :
    exec (.openOccupation tag (code :: (beBytes 2 k ++ beBytes 2 d))) s
      = .next ((openOccupation ⟨code, k, d⟩ s.taken).1.respond tag
          (openOccupation ⟨code, k, d⟩ s.taken).2) := by
  refine congrArg Host.Outcome.next ((State.request_fixedForm hs (n := 5) (by simp) (by decide) tag
    fun p s => openOccupation (.ofPayload p) s).trans ?_)
  rw [OpenOperands.ofPayload_eq code hk hd]

theorem exec_openOccupation_of_error {s : State} (hs : s.serves) (tag code : Byte) {k d : Nat}
    (hk : k < 65536) (hd : d < 65536) {c : ResponseCode}
    (hc : s.taken.checkOpening ⟨code, k, d⟩ = .error c) :
    exec (.openOccupation tag (code :: (beBytes 2 k ++ beBytes 2 d))) s
      = .next (s.answeredAs s.statusByte tag ⟨c, []⟩) := by
  rw [exec_openOccupation hs tag code hk hd, openOccupation, hc]
  rfl

theorem Channel.upRate_eq_none {c : Channel}
    (hr : c.state = .live ∨ c.state = .clamped → c.rate ≠ none) :
    c.upRate = none ↔ c.state = .absent ∨ c.state = .lost := by
  unfold Channel.upRate
  cases hc : c.state <;> simp [hc] at hr ⊢ <;> exact hr

/-- The first failing check of R49 gives the response. -/
theorem State.checkOpening_of_refused {s : State} (hup : s.startup = false) {h : Head} {k : Nat}
    (d : Nat)
    (hr : (s.channels.get h).state = .live ∨ (s.channels.get h).state = .clamped →
      (s.channels.get h).rate ≠ none) {c : ResponseCode}
    (hc : c = (if s.partition.slots ≤ k then .badField
        else if s.engines.get h ≠ .idle then .busy
        else if Table.get s.stations k = none then .notFound
        else if s.clock = none then .clockUnset
        else if (s.channels.get h).state = .absent ∨ (s.channels.get h).state = .lost then .headDown
        else if Table.firstFree s.occupations s.partition.records = none then .tableFull
        else if 16 ≤ ((Table.get s.stations k).map fun st => st.chain.length).getD 0 then .chainFull
        else .done)) (hne : c ≠ .done) :
    s.checkOpening ⟨BitVec.ofNat 8 h.code, k, d⟩ = .error c := by
  have hnow : s.now = s.clock := by rw [State.now, hup]; rfl
  have hup' := Channel.upRate_eq_none hr
  rw [State.checkOpening, Head.ofCode_code]
  dsimp only
  by_cases hslot : s.partition.slots ≤ k
  · rw [if_pos hslot] at hc ⊢
    rw [hc]
  rw [if_neg hslot] at hc ⊢
  by_cases hidle : s.engines.get h ≠ .idle
  · rw [if_pos hidle] at hc ⊢
    rw [hc]
  rw [if_neg hidle] at hc ⊢
  cases hst : Table.get s.stations k with
  | none =>
    rw [hst, if_pos rfl] at hc
    rw [hc]
  | some st =>
  rw [hst, if_neg nofun] at hc
  dsimp only
  rw [hnow]
  cases hclock : s.clock with
  | none =>
    rw [hclock, if_pos rfl] at hc
    rw [hc]
  | some now =>
  rw [hclock, if_neg nofun] at hc
  dsimp only
  cases hrate : (s.channels.get h).upRate with
  | none =>
    rw [if_pos (hup'.1 hrate)] at hc
    rw [hc]
  | some r =>
  rw [if_neg fun hdown => by rw [hup'.2 hdown] at hrate; cases hrate] at hc
  dsimp only
  cases hfree : Table.firstFree s.occupations s.partition.records with
  | none =>
    rw [hfree, if_pos rfl] at hc
    rw [hc]
  | some n =>
  rw [hfree, if_neg nofun, Option.map_some, Option.getD_some] at hc
  dsimp only
  by_cases hfull : 16 ≤ st.chain.length
  · rw [if_pos hfull] at hc
    rw [if_pos (show Config.chainCapacity ≤ _ from hfull), hc]
  · rw [if_neg hfull] at hc
    exact absurd hc hne

/-- Settles O25: the checks of R49, one after the other. -/
theorem openingRefusedInOrder : Obligations.OpeningRefusedInOrder := by
  intro tag code k d s hs hk hd hr
  refine ⟨fun hcode => exec_openOccupation_of_error hs tag code hk hd ?_, fun h c hc hne => ?_⟩
  · rw [State.checkOpening, Head.ofCode_eq_none.2 hcode]
  · rw [beBytes_one]
    exact exec_openOccupation_of_error hs tag _ hk hd
      (State.checkOpening_of_refused (s := s.taken) hs.2.1 d (hr h) hc hne)

/-! ## The accepted opening -/

theorem State.checkOpening_of_accepted {s : State} (hup : s.startup = false) {h : Head} {k n d : Nat}
    {st : Station} {now : TimeMs} {r : RateClass} (hk : k < s.partition.slots)
    (hidle : s.engines.get h = .idle) (hst : Table.get s.stations k = some st)
    (hclock : s.clock = some now) (hr : (s.channels.get h).upRate = some r)
    (hn : Table.firstFree s.occupations s.partition.records = some n) (hlen : st.chain.length < 16) :
    s.checkOpening ⟨BitVec.ofNat 8 h.code, k, d⟩ = .ok ⟨h, k, now, r, n, d⟩ := by
  have hnow : s.now = some now := by rw [State.now, hup]; exact hclock
  have hslot : ¬s.partition.slots ≤ k := Nat.not_le.2 hk
  have hroom : ¬Config.chainCapacity ≤ st.chain.length := Nat.not_le.2 hlen
  simp only [State.checkOpening, Head.ofCode_code, hslot, hidle, hst, hnow, hr, hn, hroom, if_false,
    ne_eq, not_true]

theorem State.applicable_eq_some {s : State} {h : Head} {set : CalibrationSet} :
    s.applicable h = some set ↔ s.staged.get h = some set ∧ s.openLoop h = none := by
  unfold State.applicable
  cases s.staged.get h <;> cases s.openLoop h <;> simp

theorem State.isSome_applicable (s : State) (h : Head) :
    (s.applicable h).isSome = ((s.staged.get h).isSome && (s.openLoop h).isNone) := by
  unfold State.applicable
  cases s.staged.get h <;> cases s.openLoop h <;> rfl

theorem State.applyStaged_of_applicable {s : State} {h : Head} {set : CalibrationSet}
    (ha : s.applicable h = some set) :
    s.applyStaged h = State.setNotice
      { s with
        active := s.active.set h set
        staged := s.staged.set h none
        calGen := s.calGen.set h (s.calGen.get h + 1) } .calibrationApplied := by
  rw [State.applyStaged, ha]

theorem State.applyStaged_of_not_applicable {s : State} {h : Head}
    (ha : s.staged.get h = none ∨ s.openLoop h ≠ none) : s.applyStaged h = s := by
  have hnone : s.applicable h = none := by
    refine Option.eq_none_iff_forall_ne_some.2 fun set hset => ?_
    obtain ⟨hstaged, hopen⟩ := State.applicable_eq_some.1 hset
    rcases ha with ha | ha
    · cases ha.symm.trans hstaged
    · exact ha hopen
  rw [State.applyStaged, hnone]

/-- A head judged LOST in the step of its opening has its settle counter at 0 already (R33, R57). -/
theorem State.loseHead_of_fresh {s : State} {h : Head} {w : Session} {d : TimeMs}
    (he : s.engines.get h = .settling w 0 d) :
    ∃ c n, s.loseHead h = { s with channels := c, notices := n }
      ∧ ∀ m, s.hasNotice m → (s.loseHead h).hasNotice m := by
  by_cases hd : s.timeoutDue h = true
  · have hlost : s.loseHead h = s.withLost h := by
      rw [State.loseHead_of_due hd, State.engineHeadLost_of_settling (s := s.withLost h) he, ← he]
      exact congrArg (fun e => { s.withLost h with engines := e }) (PerHead.set_get_self _ h)
    rw [hlost]
    exact ⟨_, _, rfl, fun m hm => State.hasNotice.setNotice (s := s.setChannel h _) hm _⟩
  · rw [State.loseHead_of_not_due hd]
    exact ⟨_, _, rfl, fun m hm => hm⟩

/-- What an accepted opening leaves (R50). -/
theorem State.openOccupation_eq (s : State) (q : Opening) :
    ∃ c n, s.openOccupation q = { s with
        active := (s.applyStaged q.head).active
        staged := (s.applyStaged q.head).staged
        calGen := (s.applyStaged q.head).calGen
        occupations := Table.put s.occupations q.number
          (Occupation.fresh q ((s.applyStaged q.head).calGen.get q.head))
        stations := Table.modify s.stations q.slot fun st => { st with chain := st.chain ++ [q.number] }
        pulse := { s.pulse with pendingSet := none }
        engines := s.engines.set q.head (.settling (.fresh q) 0
          (q.time + 1000 * ((s.applyStaged q.head).activeSet q.head).settlingTimeout))
        channels := c, notices := n }
      ∧ ∀ m, (s.applyStaged q.head).hasNotice m → (s.openOccupation q).hasNotice m := by
  obtain ⟨a, g, cg, n, ha⟩ := s.applyStaged_frame q.head
  generalize hu : s.applyStaged q.head = u at ha ⊢
  obtain ⟨c, n', hl, hkeeps⟩ := State.loseHead_of_fresh (h := q.head) (w := .fresh q)
    (d := q.time + 1000 * (u.activeSet q.head).settlingTimeout)
    (s := { u with
      occupations := Table.put u.occupations q.number (Occupation.fresh q (u.calGen.get q.head))
      stations := Table.modify u.stations q.slot fun st => { st with chain := st.chain ++ [q.number] }
      pulse := { u.pulse with pendingSet := none }
      engines := u.engines.set q.head (.settling (.fresh q) 0
        (q.time + 1000 * (u.activeSet q.head).settlingTimeout)) })
    (PerHead.get_set_same _ _ _)
  rw [State.openOccupation, hu]
  refine ⟨c, n', hl.trans ?_, hkeeps⟩
  rw [ha]

/-- Settles O24: the accepted opening, store by store. -/
theorem openingStartsSettling : Obligations.OpeningStartsSettling := by
  intro tag h k n d st now r s hs hk hd hidle hst hclock hr hn hlen
  have hcheck := State.checkOpening_of_accepted (s := s.taken) (d := d) hs.2.1 hk hidle hst hclock hr
    hn hlen
  have hexec := exec_openOccupation hs tag (BitVec.ofNat 8 h.code) (hk.trans s.partition.slots_lt) hd
  rw [openOccupation, hcheck] at hexec
  dsimp only at hexec
  obtain ⟨c, m, heq, hkeeps⟩ := s.taken.openOccupation_eq ⟨h, k, now, r, n, d⟩
  have hset : (s.taken.applyStaged h).activeSet h = (s.taken.applyStaged h).active.get h := by
    obtain ⟨a, g, cg, m', ha⟩ := s.taken.applyStaged_frame h
    rw [ha, State.activeSet, show s.taken.startup = false from hs.2.1]
    rfl
  rw [hset] at heq
  rw [heq] at hexec hkeeps
  rw [beBytes_one]
  refine ⟨_, hexec, ?_, ⟨Occupation.fresh ⟨h, k, now, r, n, d⟩ ((s.taken.applyStaged h).calGen.get h),
    ?_, rfl, rfl, rfl, rfl, rfl, rfl, rfl, rfl, rfl, rfl, rfl⟩, fun j hj => ?_, ?_, fun j hj => ?_, rfl,
    rfl, rfl, rfl, rfl, fun set hset hopen => ?_, fun hnot => ?_⟩
  · rw [s.taken.isSome_applicable h]
    rfl
  · exact (Table.get_put _ _ _ _).trans (if_pos rfl)
  · exact (Table.get_put _ _ _ _).trans (if_neg hj)
  · simp [Table.get_modify, hst]
  · simp [Table.get_modify, hj]
  · have ha := State.applyStaged_of_applicable (State.applicable_eq_some.2 ⟨hset, hopen⟩ :
      s.taken.applicable h = some set)
    exact ⟨congrArg State.active ha, congrArg State.staged ha, congrArg State.calGen ha,
      hkeeps _ (ha ▸ State.hasNotice_setNotice_self _ _)⟩
  · have hkept : (s.taken.applyStaged h).active = s.active ∧ (s.taken.applyStaged h).staged = s.staged
        ∧ (s.taken.applyStaged h).calGen = s.calGen := by
      rw [State.applyStaged_of_not_applicable (s := s.taken) hnot]
      exact ⟨rfl, rfl, rfl⟩
    exact hkept

end Sys2Proof.Machine
end

section
/-! EXCLUDE_OCCUPATION and INCLUDE_OCCUPATION (R47, R67), and the value of a station formed at once by an
idle Revision Engine (R136, R137, R144). -/

namespace Sys2Proof.Machine

/-! ## Requests that name a record by 2 bytes -/

section

variable {s : State} (hs : s.serves) (tag : Byte) {n : Nat} (hn : n < 65536)

include hs hn

theorem State.request_number (serve : Nat → State → State × Answer) :
    s.request tag (beBytes 2 n) (fixedForm 2 fun p s => serve (fieldNat 0 2 p) s)
      = (serve n s.taken).1.respond tag (serve n s.taken).2 := by
  have hfield : fieldNat 0 2 (beBytes 2 n) = n := by
    simpa using fieldNat_beBytes_append (n := 2) hn []
  rw [State.request_fixedForm hs (by simp) (by decide), hfield]

theorem State.request_number_of_refusal {serve : Nat → State → State × Answer} {c : ResponseCode}
    (hr : serve n s.taken = (s.taken, refusal c)) :
    s.request tag (beBytes 2 n) (fixedForm 2 fun p s => serve (fieldNat 0 2 p) s)
      = s.answeredAs s.statusByte tag ⟨c, []⟩ := by
  rw [State.request_number hs tag hn, hr]
  rfl

end

/-! ## A station's value formed at once -/

theorem State.get_processStation {s : State} {k : Nat} {st : Station}
    (hst : Table.get s.stations k = some st) :
    Table.get (s.processStation k).stations k
      = some (st.processed s.constants.spreadLimit (s.contributing st.chain)) := by
  rw [State.processStation, hst]
  dsimp only
  split <;> simp [Table.get_modify, hst]

theorem State.revisionBusy_eq_false {s : State} :
    s.revisionBusy = false ↔ s.revQueue = [] ∧ s.inFlight = none := by
  cases hq : s.revQueue <;> cases hf : s.inFlight <;> simp [State.revisionBusy, hq, hf]

/-- An engine with one STATION_VALUE waiting and nothing in flight processes it and goes idle (R136, R137,
R144). -/
theorem State.revise_of_single_value {s : State} {k : Nat} (hq : s.revQueue = [⟨.stationValue, k⟩])
    (hf : s.inFlight = none) (b : Bool) :
    State.revise b s = ({ s with revQueue := [] }.processStation k).setNotice .revisionIdle := by
  have htake : takeItems s.revQueue.length s = { s with revQueue := [] }.processStation k := by
    rw [hq, List.length_singleton, takeItems, hf, hq]
    rfl
  obtain ⟨st, n, hp⟩ := State.processStation_frame { s with revQueue := [] } k
  have hidle : ({ s with revQueue := [] }.processStation k).revisionBusy = false := by
    rw [hp]
    exact State.revisionBusy_eq_false.2 ⟨rfl, hf⟩
  have hbusy : s.revisionBusy = true := by rw [State.revisionBusy, hq]; rfl
  rw [State.revise, htake, hidle, hbusy, Bool.or_true]
  rfl

/-! ## The included field -/

section

variable (s : State) (n : Nat) (o : Occupation) (b : Bool)

/-- The field written and the item queued, before the Revision Engine goes on (R67). -/
def State.withIncluded : State :=
  (s.modifyOccupation n fun o => { o with included := b }).queueItem ⟨.stationValue, o.station⟩

theorem State.setIncluded_eq :
    s.setIncluded n o b = State.revise s.revisionBusy (s.withIncluded n o b) :=
  rfl

theorem State.setIncluded_frame :
    ∃ q f t st m, s.setIncluded n o b = { s with
      occupations := Table.modify s.occupations n fun o => { o with included := b }
      revQueue := q, inFlight := f, tide := t, stations := st, notices := m } := by
  rw [s.setIncluded_eq n o b]
  exact State.revise_frame s.revisionBusy (s.withIncluded n o b)

theorem State.valueFollows_setIncluded : (s.setIncluded n o b).valueFollows o.station :=
  State.valueFollows_revise s.revisionBusy (.inl (State.mem_revQueue_queueItem.2 (.inl rfl)))

/-- An idle Revision Engine forms the value in the same step (R136, R137, R144; log 12). -/
theorem State.setIncluded_of_idle (hidle : s.revisionBusy = false) {st : Station}
    (hst : Table.get s.stations o.station = some st) :
    Table.get (s.setIncluded n o b).stations o.station
        = some (st.processed s.constants.spreadLimit ((s.setIncluded n o b).contributing st.chain))
      ∧ (s.setIncluded n o b).hasNotice .revisionIdle
      ∧ (s.setIncluded n o b).revisionBusy = false := by
  obtain ⟨hq, hf⟩ := State.revisionBusy_eq_false.1 hidle
  have hqueue : (s.withIncluded n o b).revQueue = [⟨.stationValue, o.station⟩] := by
    simp [State.withIncluded, State.queueItem, hq]
  have hvalue : s.setIncluded n o b = ({ s.withIncluded n o b with
      revQueue := [] }.processStation o.station).setNotice .revisionIdle :=
    State.revise_of_single_value hqueue hf s.revisionBusy
  generalize hu : ({ s.withIncluded n o b with revQueue := [] } : State) = u at hvalue
  have hmarked : Table.get u.stations o.station = some { st with valueStale := true } := by
    rw [← hu]
    simp [State.withIncluded, State.queueItem, Table.get_modify, hst]
  obtain ⟨sts, m, hp⟩ := u.processStation_frame o.station
  rw [hvalue]
  refine ⟨?_, State.hasNotice_setNotice_self _ _, ?_⟩
  · rw [State.setNotice_stations, State.get_processStation hmarked, hp, ← hu]
    rfl
  · rw [hp, ← hu]
    exact State.revisionBusy_eq_false.2 ⟨rfl, hf⟩

end

/-! ## The requests -/

/-- The request that writes the included field. -/
theorem exec_includeRequest {s : State} (b : Bool) (tag : Byte) (p : List Byte) :
    exec (if b then .includeOccupation tag p else .excludeOccupation tag p) s
      = .next (s.request tag p (fixedForm 2 fun p s => includeRequest b (fieldNat 0 2 p) s)) := by
  cases b <;> rfl

section

variable {s : State} {n : Nat}

theorem includeRequest_of_closed {o : Occupation} (hn : n < s.partition.records)
    (ho : Table.get s.occupations n = some o) (hc : o.state = .closed) (b : Bool) :
    includeRequest b n s = (s.setIncluded n o b, done (yesNo o.included ++ yesNo b)) := by
  rw [includeRequest, State.checkOccupation_eq_ok.2 ⟨hn, ho⟩]
  exact if_pos hc

theorem includeRequest_of_not_closed {o : Occupation} (hn : n < s.partition.records)
    (ho : Table.get s.occupations n = some o) (hc : o.state ≠ .closed) (b : Bool) :
    includeRequest b n s = (s, refusal .wrongState) := by
  rw [includeRequest, State.checkOccupation_eq_ok.2 ⟨hn, ho⟩]
  exact if_neg hc

theorem includeRequest_of_limit (hn : s.partition.records ≤ n) (b : Bool) :
    includeRequest b n s = (s, refusal .badField) := by
  rw [includeRequest, State.checkOccupation_of_limit hn]

theorem includeRequest_of_free (hn : n < s.partition.records)
    (hg : Table.get s.occupations n = none) (b : Bool) :
    includeRequest b n s = (s, refusal .notFound) := by
  rw [includeRequest, State.checkOccupation_of_free hn hg]

end

/-- Settles O31: the record written, the station's value formed or owed, and the refusals. -/
theorem includedFieldWritten : Obligations.IncludedFieldWritten := by
  refine ⟨fun tag n o st b s hs hn ho hc hst => ?_, fun tag n b s hs hn => ?_⟩
  · obtain ⟨q, f, t, sts, m, hframe⟩ := s.taken.setIncluded_frame n o b
    have hvalue := s.taken.valueFollows_setIncluded n o b
    have hidle := fun h => s.taken.setIncluded_of_idle n o b (st := st) h hst
    refine ⟨(s.taken.setIncluded n o b).respond tag (done (yesNo o.included ++ yesNo b)), ?_, rfl, ?_,
      fun j hj => ?_, hvalue, hidle, ?_⟩
    · rw [exec_includeRequest, State.request_number hs tag (hn.trans s.partition.records_lt),
        includeRequest_of_closed (s := s.taken) hn ho hc]
    · rw [hframe]
      exact Table.get_modify_self (f := fun o => { o with included := b }) ho
    · rw [hframe]
      simp [Table.get_modify, hj]
    · rw [hframe]
      exact ⟨rfl, rfl, rfl, rfl⟩
  · have hrefuses {c : ResponseCode} (hr : includeRequest b n s.taken = (s.taken, refusal c)) :
        s.refuses (if b then .includeOccupation tag (beBytes 2 n)
          else .excludeOccupation tag (beBytes 2 n)) tag c := by
      rw [State.refuses, exec_includeRequest, State.request_number_of_refusal hs tag hn hr]
    exact ⟨⟨fun hlim => hrefuses (includeRequest_of_limit (s := s.taken) hlim b),
      fun hlt hg => hrefuses (includeRequest_of_free (s := s.taken) hlt hg b)⟩,
      fun o hlt ho hc => hrefuses (includeRequest_of_not_closed (s := s.taken) hlt ho hc b)⟩

end Sys2Proof.Machine
end

section
/-! DELETE_OCCUPATION: the loop roles of the record resolved, its redo dropped, the record freed (R47, R68,
R126, R129, R130). -/

namespace Sys2Proof.Machine

/-! ## Loop roles -/

section

variable {s : State} {n k : Nat} {o : Occupation}

theorem State.memberLoop_eq_some :
    s.memberLoop n o = some k
      ↔ o.driftLoop = some k ∧ ∃ l, Table.get s.loops k = some l ∧ n ∈ l.members := by
  unfold State.memberLoop
  cases o.driftLoop with
  | none => simp
  | some j =>
    have hmem : n ∈ ((Table.get s.loops j).map Loop.members).getD []
        ↔ ∃ l, Table.get s.loops j = some l ∧ n ∈ l.members := by
      cases Table.get s.loops j <;> simp
    simp only [ite_eq_iff, Option.some.injEq, reduceCtorEq, and_false, or_false, hmem]
    exact ⟨fun ⟨h, hj⟩ => ⟨hj, hj ▸ h⟩, fun ⟨hj, h⟩ => ⟨hj ▸ h, hj⟩⟩

theorem State.opensLoop_eq_some :
    s.opensLoop n o = some k
      ↔ o.anchorsLoop = some k ∧ ∃ l, Table.get s.loops k = some l ∧ l.opener = n := by
  unfold State.opensLoop
  cases o.anchorsLoop with
  | none => simp
  | some j =>
    simp only [ite_eq_iff, Option.map_eq_some_iff, Option.some.injEq, reduceCtorEq, and_false, or_false]
    exact ⟨fun ⟨h, hj⟩ => ⟨hj, hj ▸ h⟩, fun ⟨hj, h⟩ => ⟨hj ▸ h, hj⟩⟩

theorem State.mem_loopsAbandonedWith :
    k ∈ s.loopsAbandonedWith n o ↔ ∃ l, Table.get s.loops k = some l
      ∧ ((o.driftLoop = some k ∧ l.closer = some n) ∨ (o.anchorsLoop = some k ∧ l.opener = n)) := by
  simp only [State.loopsAbandonedWith, List.mem_append, Option.mem_toList, State.closesLoop_eq_some,
    State.opensLoop_eq_some]
  grind

end

/-! ## The roles resolved -/

/-- The loop without an occupation among its members (R130). -/
def Loop.without (n : Nat) (l : Loop) : Loop := { l with members := l.members.filter (· != n) }

theorem Loop.withdraw_without {l : Loop} {n m : Nat} (h : m ≠ n) :
    (l.without n).withdraw m = l.withdraw m := by
  have hmem : m ∈ l.members.filter (· != n) ↔ m ∈ l.members := by simp [h]
  funext o
  simp only [Loop.withdraw, Loop.without, hmem]

theorem Loop.occupants_without {l : Loop} {n m : Nat} (h : m ∉ l.occupants) :
    m ∉ (l.without n).occupants := by
  rw [Loop.mem_occupants] at h ⊢
  exact fun hm => h (hm.imp_right (.imp_right fun hin => (List.mem_filter.1 hin).1))

section

variable (s : State) (n : Nat) (o : Occupation)

/-- The record out of the list of the loop it is a member of (R130). -/
def State.unlisted : State :=
  match s.memberLoop n o with
  | some k => s.removeMember k n
  | none => s

theorem State.unlisted_frame :
    ∃ l f, s.unlisted n o = { s with loops := l, inFlight := f } := by
  unfold State.unlisted
  split
  · exact s.removeMember_frame _ n
  · exact ⟨_, _, rfl⟩

theorem State.get_loops_unlisted (j : Nat) :
    Table.get (s.unlisted n o).loops j = (Table.get s.loops j).map fun l =>
      if s.memberLoop n o = some j then l.without n else l := by
  unfold State.unlisted
  split
  · next k hk =>
    simp only [State.get_loops_removeMember, hk, Option.some.injEq, ite_map_self, eq_comm (a := k)]
    rfl
  · next hk => simp [hk]

theorem State.resolveRoles_eq :
    s.resolveRoles n o = (s.unlisted n o).abandonAll (s.loopsAbandonedWith n o) :=
  rfl

theorem State.resolveRoles_frame :
    ∃ oc l q f t st, s.resolveRoles n o = { s with
      occupations := oc, loops := l, revQueue := q, inFlight := f, tide := t, stations := st } := by
  obtain ⟨l, f, hu⟩ := s.unlisted_frame n o
  obtain ⟨oc, l', q, f', t, st, ha⟩ := State.abandonAll_frame (s.loopsAbandonedWith n o) (s.unlisted n o)
  rw [State.resolveRoles_eq, ha, hu]
  exact ⟨_, _, _, _, _, _, rfl⟩

theorem State.get_loops_resolveRoles (j : Nat) :
    Table.get (s.resolveRoles n o).loops j
      = if j ∈ s.loopsAbandonedWith n o then none
        else (Table.get s.loops j).map fun l =>
          if s.memberLoop n o = some j then l.without n else l := by
  rw [State.resolveRoles_eq, State.get_loops_abandonAll, State.get_loops_unlisted]

theorem State.occupations_unlisted : (s.unlisted n o).occupations = s.occupations := by
  obtain ⟨l, f, hu⟩ := s.unlisted_frame n o
  rw [hu]

end

section

variable {s : State} {n m : Nat} {o : Occupation}

/-- An occupation of no abandoned loop is as it was. -/
theorem State.get_occupations_resolveRoles_of_not_mem
    (h : ∀ k l, k ∈ s.loopsAbandonedWith n o → Table.get s.loops k = some l → m ∉ l.occupants) :
    Table.get (s.resolveRoles n o).occupations m = Table.get s.occupations m := by
  rw [State.resolveRoles_eq, State.get_abandonAll_of_not_mem, State.occupations_unlisted]
  intro k hk l hl
  rw [State.get_loops_unlisted] at hl
  obtain ⟨l', hl', rfl⟩ := Option.map_eq_some_iff.1 hl
  split
  · exact Loop.occupants_without (h k l' hk hl')
  · exact h k l' hk hl'

/-- Another occupation, of one abandoned loop alone, loses that loop's terms (R126). -/
theorem State.get_occupations_resolveRoles_of_mem {k : Nat} {l : Loop} (hm : m ≠ n)
    (hk : k ∈ s.loopsAbandonedWith n o) (hl : Table.get s.loops k = some l)
    (hother : ∀ k' l', k' ≠ k → k' ∈ s.loopsAbandonedWith n o → Table.get s.loops k' = some l' →
      m ∉ l'.occupants) :
    Table.get (s.resolveRoles n o).occupations m
      = (Table.get s.occupations m).map (l.withdraw m) := by
  have hlisted := s.get_loops_unlisted n o k
  rw [hl, Option.map_some] at hlisted
  rw [State.resolveRoles_eq, State.get_abandonAll_of_mem _ hk hlisted, State.occupations_unlisted]
  · split
    · rw [Loop.withdraw_without hm]
    · rfl
  · intro k' hk' hne l' hl'
    rw [State.get_loops_unlisted] at hl'
    obtain ⟨l₁, hl₁, rfl⟩ := Option.map_eq_some_iff.1 hl'
    split
    · exact Loop.occupants_without (hother k' l₁ hne hk' hl₁)
    · exact hother k' l₁ hne hk' hl₁

theorem State.withdrawnFrom_of_get {t : State} {l : Loop}
    (h : Table.get t.occupations m = (Table.get s.occupations m).map (l.withdraw m)) :
    s.withdrawnFrom t l m := by
  intro o ho
  rw [ho, Option.map_some] at h
  refine ⟨fun hmem hclo hop => ?_, fun hclo hmem hop => ?_, fun hop hmem hclo => ?_⟩
  · rw [h, Loop.withdraw_of_member hmem hclo hop, Occupation.unmembered_eq]
  · rw [h, Loop.withdraw_of_closer hclo hmem hop, Occupation.unclosed_eq]
  · rw [h, Loop.withdraw_of_opener hop hmem hclo, Occupation.unanchored_eq]

theorem State.revQueue_resolveRoles_of_drift {o₁ o₂ : Occupation}
    (ho : Table.get s.occupations m = some o₁)
    (ho' : Table.get (s.resolveRoles n o).occupations m = some o₂) (hne : o₂.drift ≠ o₁.drift) :
    ⟨.stationValue, o₁.station⟩ ∈ (s.resolveRoles n o).revQueue := by
  rw [← s.occupations_unlisted n o] at ho
  exact State.revQueue_abandonAll_of_drift _ ho ho' hne

end

/-! ## The redo dropped -/

theorem State.dropRedo_frame (s : State) (n : Nat) :
    ∃ f t, s.dropRedo n = { s with
      revQueue := s.revQueue.filter fun i => !(i == ⟨.tideRedo, n⟩), inFlight := f, tide := t } := by
  unfold State.dropRedo
  dsimp only
  split
  · obtain ⟨f, t, h⟩ := (s.removeItems fun i => i == ⟨.tideRedo, n⟩).dropInFlight_frame
    exact ⟨f, t, h⟩
  · exact ⟨_, _, rfl⟩

theorem State.not_redoOwed_dropRedo (s : State) (n : Nat) : ¬(s.dropRedo n).redoOwed n := by
  rintro (hwaits | hflies)
  · obtain ⟨f, t, h⟩ := s.dropRedo_frame n
    rw [h] at hwaits
    simp at hwaits
  · unfold State.dropRedo at hflies
    dsimp only at hflies
    split at hflies
    · rw [State.dropInFlight_eq] at hflies
      cases hflies
    · next hne => exact hne hflies

/-- Taking items makes no redo (R136). -/
theorem takeItems_not_redoOwed {n : Nat} (fuel : Nat) (s : State) :
    ¬s.redoOwed n → ¬(takeItems fuel s).redoOwed n := by
  refine takeItems_keeps (P := fun u => ¬u.redoOwed n) ?_ ?_ ?_ ?_ fuel s
  · intro s i rest hf hq hk h hafter
    obtain ⟨st, m, hp⟩ := State.processStation_frame { s with revQueue := rest } i.target
    rw [hp] at hafter
    exact h (hafter.imp_left fun hm => hq ▸ List.mem_cons_of_mem _ hm)
  · intro s i rest hf hq hk h hafter
    obtain ⟨f, t, hr⟩ := State.takeRedo_frame { s with revQueue := rest } i.target
    rcases hafter with hm | hflies
    · rw [hr] at hm
      exact h (.inl (hq ▸ List.mem_cons_of_mem _ hm))
    · rw [State.redoing_takeRedo] at hflies
      cases hflies
      exact h (.inl (hq ▸ hk ▸ List.mem_cons_self))
  · intro s i rest hf hq hk h hafter
    refine h (hafter.imp_left fun hm => ?_)
    rw [hq]
    simpa [or_comm] using hm
  · intro s i rest hf hq hk h hafter
    exact h (.inl (hq ▸ List.mem_cons_of_mem _ (hafter.resolve_right nofun)))

theorem State.not_redoOwed_revise {s : State} (b : Bool) {n : Nat} (h : ¬s.redoOwed n) :
    ¬(State.revise b s).redoOwed n := by
  obtain ⟨m, hr⟩ := s.revise_cases b
  rw [hr]
  exact takeItems_not_redoOwed _ s h

/-! ## The deletion -/

section

variable (s : State) (n : Nat) (o : Occupation)

/-- A CLOSED record's roles resolved; a FAILED one has none (R68 part 1). -/
def State.unbound : State := if o.state = .closed then s.resolveRoles n o else s

/-- The record freed and its redo dropped (R68 parts 2 to 4). -/
def State.removed : State := ((s.unbound n o).dropRedo n).freeOccupation n o.station

theorem State.delete_eq :
    s.delete n o = State.revise s.revisionBusy
      (if o.state = .closed then (s.removed n o).queueItem ⟨.stationValue, o.station⟩
        else s.removed n o) := by
  unfold State.delete State.removed State.unbound
  split <;> rfl

theorem State.unbound_frame :
    ∃ oc l q f t st, s.unbound n o = { s with
      occupations := oc, loops := l, revQueue := q, inFlight := f, tide := t, stations := st } := by
  unfold State.unbound
  split
  · exact s.resolveRoles_frame n o
  · exact ⟨_, _, _, _, _, _, rfl⟩

/-- What a deletion can change. -/
theorem State.delete_frame :
    ∃ q f t st m, s.delete n o = { s with
      occupations := Table.del (s.unbound n o).occupations n, loops := (s.unbound n o).loops
      revQueue := q, inFlight := f, tide := t, stations := st, notices := m } := by
  choose q f t st m hr using State.revise_frame s.revisionBusy
  obtain ⟨oc, l, q', f', t', st', hu⟩ := s.unbound_frame n o
  obtain ⟨f'', t'', hd⟩ := (s.unbound n o).dropRedo_frame n
  rw [State.delete_eq, State.removed, hd, hr, hu]
  split <;> exact ⟨_, _, _, _, _, rfl⟩

theorem State.get_occupations_delete (m : Nat) :
    Table.get (s.delete n o).occupations m
      = if m = n then none else Table.get (s.unbound n o).occupations m := by
  obtain ⟨q, f, t, st, x, h⟩ := s.delete_frame n o
  rw [h, Table.get_del]

theorem State.loops_delete : (s.delete n o).loops = (s.unbound n o).loops := by
  obtain ⟨q, f, t, st, x, h⟩ := s.delete_frame n o
  rw [h]

theorem State.not_redoOwed_delete : ¬(s.delete n o).redoOwed n := by
  have hdropped : ¬(s.removed n o).redoOwed n := (s.unbound n o).not_redoOwed_dropRedo n
  rw [State.delete_eq]
  refine State.not_redoOwed_revise _ ?_
  split
  · rintro (hwaits | hflies)
    · rcases State.mem_revQueue_queueItem.1 hwaits with hsame | hm
      · cases hsame
      · exact hdropped (.inl hm)
    · exact hdropped (.inr hflies)
  · exact hdropped

theorem State.sameRecords_unbound : s.sameRecords (s.unbound n o) := by
  unfold State.unbound
  split
  · exact s.sameRecords_resolveRoles n o
  · exact .refl s

/-- The station keeps its chain without the record (R68 part 3). -/
theorem State.chain_delete {st : Station} (hst : Table.get s.stations o.station = some st) :
    (Table.get (s.delete n o).stations o.station).map Station.chain
      = some (st.chain.filter fun m => m != n) := by
  obtain ⟨st₁, hst₁, hbare₁⟩ := ((s.sameRecords_unbound n o).trans
    ((s.unbound n o).sameRecords_dropRedo n)).symm_station hst
  have hremoved : Table.get (s.removed n o).stations o.station
      = some { st₁ with chain := st₁.chain.filter fun m => m != n } := by
    simp [State.removed, State.freeOccupation, Table.get_modify, hst₁]
  have hrest : (s.removed n o).sameRecords (s.delete n o) := by
    rw [State.delete_eq]
    split
    · exact (State.sameRecords_queueItem _ _).trans (State.sameRecords_revise _ _)
    · exact State.sameRecords_revise _ _
  obtain ⟨st₂, hst₂, hbare₂⟩ := hrest.symm_station hremoved
  rw [hst₂, Option.map_some, Station.chain_of_bare hbare₂, ← Station.chain_of_bare hbare₁]

end

section

variable {s : State} {n : Nat} {o : Occupation} (hc : o.state = .closed)

include hc

theorem State.unbound_of_closed : s.unbound n o = s.resolveRoles n o := if_pos hc

theorem State.get_loops_delete (j : Nat) :
    Table.get (s.delete n o).loops j
      = if j ∈ s.loopsAbandonedWith n o then none
        else (Table.get s.loops j).map fun l =>
          if s.memberLoop n o = some j then l.without n else l := by
  rw [State.loops_delete, State.unbound_of_closed hc, State.get_loops_resolveRoles]

theorem State.get_occupations_delete_of_closed {m : Nat} (hm : m ≠ n) :
    Table.get (s.delete n o).occupations m = Table.get (s.resolveRoles n o).occupations m := by
  rw [State.get_occupations_delete, if_neg hm, State.unbound_of_closed hc]

/-- A value queued while the roles were resolved follows. -/
theorem State.valueFollows_delete {x : Nat}
    (h : ⟨.stationValue, x⟩ ∈ (s.resolveRoles n o).revQueue) : (s.delete n o).valueFollows x := by
  rw [State.delete_eq, if_pos hc]
  refine State.valueFollows_revise _ (.inl (State.mem_revQueue_queueItem.2 (.inr ?_)))
  obtain ⟨f, t, hd⟩ := (s.unbound n o).dropRedo_frame n
  rw [State.removed, hd, State.unbound_of_closed hc]
  exact List.mem_filter.2 ⟨h, rfl⟩

theorem State.valueFollows_delete_self : (s.delete n o).valueFollows o.station := by
  rw [State.delete_eq, if_pos hc]
  exact State.valueFollows_revise _ (.inl (State.mem_revQueue_queueItem.2 (.inl rfl)))

/-- Of the occupations that stay, one whose D changed has its station's value formed anew (R126
part 5). -/
theorem State.changedTermsFollow_delete :
    s.changedTermsFollow (s.delete n o) fun m => m ≠ n := by
  intro m o₁ o₂ hm ho₁ ho₂ hne
  rw [State.get_occupations_delete_of_closed hc hm] at ho₂
  exact State.valueFollows_delete hc (State.revQueue_resolveRoles_of_drift ho₁ ho₂ hne)

end

theorem State.unbound_of_failed {s : State} {n : Nat} {o : Occupation} {c : FailCause}
    (hc : o.state = .failed c) : s.unbound n o = s :=
  if_neg (by rw [hc]; nofun)

/-! ## The request -/

section

variable {s : State} {n : Nat}

theorem deleteOccupation_of_ended {o : Occupation} (hn : n < s.partition.records)
    (ho : Table.get s.occupations n = some o) (hs : o.state ≠ .opened) :
    deleteOccupation n s = (s.delete n o, done (beBytes 2 (s.deleteAbandons n o))) := by
  rw [deleteOccupation, State.checkOccupation_eq_ok.2 ⟨hn, ho⟩]
  exact if_neg hs

theorem deleteOccupation_of_open {o : Occupation} (hn : n < s.partition.records)
    (ho : Table.get s.occupations n = some o) (hs : o.state = .opened) :
    deleteOccupation n s = (s, refusal .wrongState) := by
  rw [deleteOccupation, State.checkOccupation_eq_ok.2 ⟨hn, ho⟩]
  exact if_pos hs

theorem deleteOccupation_of_limit (hn : s.partition.records ≤ n) :
    deleteOccupation n s = (s, refusal .badField) := by
  rw [deleteOccupation, State.checkOccupation_of_limit hn]

theorem deleteOccupation_of_free (hn : n < s.partition.records)
    (hg : Table.get s.occupations n = none) : deleteOccupation n s = (s, refusal .notFound) := by
  rw [deleteOccupation, State.checkOccupation_of_free hn hg]

end

theorem exec_deleteOccupation {s : State} (hs : s.serves) (tag : Byte) {n : Nat} {o : Occupation}
    (hn : n < s.partition.records) (ho : Table.get s.occupations n = some o)
    (hended : o.state ≠ .opened) :
    exec (.deleteOccupation tag (beBytes 2 n)) s
      = .next ((s.taken.delete n o).respond tag (done (beBytes 2 (s.deleteAbandons n o)))) := by
  refine congrArg Host.Outcome.next ((State.request_number hs tag (hn.trans s.partition.records_lt)
    deleteOccupation).trans ?_)
  rw [deleteOccupation_of_ended (s := s.taken) hn ho hended]
  rfl

/-- Settles O33: the deletion store by store, its refusals, and the loops a record is bound to. -/
theorem deletionFreesTheRecord : Obligations.DeletionFreesTheRecord := by
  refine ⟨fun tag n o st s hs hn ho hended hst => ?_, fun tag n s hs hn => ?_,
    fun n k o s => ⟨State.memberLoop_eq_some, State.mem_loopsAbandonedWith⟩⟩
  · obtain ⟨q, f, t, sts, m, hframe⟩ := s.taken.delete_frame n o
    refine ⟨_, exec_deleteOccupation hs tag hn ho hended, rfl,
      (s.taken.get_occupations_delete n o n).trans (if_pos rfl), s.taken.chain_delete n o hst,
      s.taken.not_redoOwed_delete n o,
      fun hc => ⟨fun k hk => ?_, fun k hk hm => ?_, fun k l hk hm hl => ?_, fun hnil m hm => ?_,
        fun k l m hk hl hm hother => State.withdrawnFrom_of_get ?_, fun m hm hother => ?_,
        State.changedTermsFollow_delete (s := s.taken) hc,
        State.valueFollows_delete_self (s := s.taken) hc⟩,
      fun c hc => ⟨?_, fun m hm => ?_⟩, ?_⟩
    · exact (State.get_loops_delete (s := s.taken) hc k).trans (if_pos hk)
    · refine ((State.get_loops_delete (s := s.taken) hc k).trans (if_neg hk)).trans ?_
      simp only [show s.taken.memberLoop n o ≠ some k from hm, if_false, Option.map_id']
      rfl
    · refine ((State.get_loops_delete (s := s.taken) hc k).trans (if_neg hk)).trans ?_
      simp only [show s.taken.memberLoop n o = some k from hm, if_true, State.taken_loops, hl]
      rfl
    · refine (State.get_occupations_delete_of_closed (s := s.taken) hc hm).trans
        (State.get_occupations_resolveRoles_of_not_mem (s := s.taken) fun k l hk => ?_)
      rw [show s.taken.loopsAbandonedWith n o = [] from hnil] at hk
      cases hk
    · exact (State.get_occupations_delete_of_closed (s := s.taken) hc hm).trans
        (State.get_occupations_resolveRoles_of_mem (s := s.taken) hm hk hl hother)
    · exact (State.get_occupations_delete_of_closed (s := s.taken) hc hm).trans
        (State.get_occupations_resolveRoles_of_not_mem (s := s.taken) hother)
    · refine (s.taken.loops_delete n o).trans ?_
      rw [State.unbound_of_failed hc]
      rfl
    · refine (s.taken.get_occupations_delete n o m).trans ((if_neg hm).trans ?_)
      rw [State.unbound_of_failed hc]
      rfl
    · rw [hframe]
      exact ⟨rfl, rfl, rfl, rfl⟩
  · have hrefuses {c : ResponseCode} (hr : deleteOccupation n s.taken = (s.taken, refusal c)) :
        s.refuses (.deleteOccupation tag (beBytes 2 n)) tag c :=
      congrArg Host.Outcome.next (State.request_number_of_refusal hs tag hn hr)
    exact ⟨⟨fun hlim => hrefuses (deleteOccupation_of_limit (s := s.taken) hlim),
      fun hlt hg => hrefuses (deleteOccupation_of_free (s := s.taken) hlt hg)⟩,
      fun o hlt ho hopen => hrefuses (deleteOccupation_of_open (s := s.taken) hlt ho hopen)⟩

end Sys2Proof.Machine
end

section
/-! V = S̄ + T̄ − D in the CLOSED records (R87): which changes of a record keep it, and which operations
change no record. -/

namespace Sys2Proof.Machine

namespace Table

variable {α : Type} {P : α → Prop} {t : Table α}

/-! ## What holds of every record -/

/-- Every record satisfies a predicate. -/
def Each (P : α → Prop) (t : Table α) : Prop := ∀ e ∈ t, P e.2

theorem each_nil : Each P [] := nofun

theorem Each.filter (h : Each P t) (p : Nat × α → Bool) : Each P (t.filter p) :=
  fun e he => h e (List.mem_of_mem_filter he)

/-- Records changed where their key passes a test. -/
theorem Each.mapIf {f : α → α} (h : Each P t) (hf : ∀ a, P a → P (f a)) (p : Nat → Prop)
    [DecidablePred p] : Each P (t.map fun e => if p e.1 then (e.1, f e.2) else e) := by
  intro e he
  obtain ⟨x, hx, rfl⟩ := List.mem_map.1 he
  split
  · exact hf _ (h x hx)
  · exact h x hx

theorem Each.modify {f : α → α} (h : Each P t) (hf : ∀ a, P a → P (f a)) (k : Nat) :
    Each P (Table.modify t k f) :=
  h.mapIf hf (· = k)

theorem Each.modifyKeys {f : α → α} (h : Each P t) (hf : ∀ a, P a → P (f a)) (ks : List Nat) :
    Each P (Table.modifyKeys t ks f) :=
  h.mapIf hf (· ∈ ks)

theorem Each.modifyAll {f : α → α} (h : Each P t) (hf : ∀ a, P a → P (f a)) :
    Each P (Table.modifyAll t f) :=
  List.forall_mem_map.2 fun x hx => hf _ (h x hx)

theorem Each.put {a : α} (h : Each P t) (ha : P a) (k : Nat) : Each P (Table.put t k a) := by
  induction t with
  | nil => exact List.forall_mem_singleton.2 ha
  | cons x t ih =>
    obtain ⟨hx, ht⟩ := List.forall_mem_cons.1 h
    unfold Table.put
    split
    · exact List.forall_mem_cons.2 ⟨ha, h⟩
    · split
      · exact List.forall_mem_cons.2 ⟨ha, ht⟩
      · exact List.forall_mem_cons.2 ⟨hx, ih ht⟩

end Table

/-! ## Changes of one record -/

/-- A CLOSED record holds V = S̄ + T̄ − D, D taken as 0 when absent (R87). -/
def Occupation.valueHolds (o : Occupation) : Prop :=
  o.state = .closed → o.value = some (o.corrected - o.drift.getD 0)

theorem State.valuesHold_iff {s : State} :
    s.valuesHold ↔ Table.Each Occupation.valueHolds s.occupations := Iff.rfl

/-- A change of a record that leaves no CLOSED record with another V than R87 gives. -/
def Occupation.KeepsValue (f : Occupation → Occupation) : Prop := ∀ o, o.valueHolds → (f o).valueHolds

theorem Occupation.valueHolds_of_not_closed {o : Occupation} (h : o.state ≠ .closed) : o.valueHolds :=
  fun hc => absurd hc h

/-- V is formed anew after the terms it is formed of. -/
theorem Occupation.valueHolds_revalue (o : Occupation) : o.revalue.valueHolds := fun _ => rfl

theorem Occupation.keepsValue_close (g : Integration) (grade : Grade) (stale : Bool) :
    KeepsValue (Occupation.close g grade stale) :=
  fun _ _ => valueHolds_revalue _

theorem Occupation.keepsValue_redone (held : List HeldResult) : KeepsValue (Occupation.redone held) :=
  fun _ _ => valueHolds_revalue _

theorem Occupation.keepsValue_drifted (r : Int) (ta : Nat) : KeepsValue (Occupation.drifted r ta) :=
  fun _ _ => valueHolds_revalue _

theorem Occupation.keepsValue_unmembered : KeepsValue Occupation.unmembered :=
  fun _ _ => valueHolds_revalue _

theorem Occupation.keepsValue_unclosed : KeepsValue Occupation.unclosed :=
  fun _ _ => valueHolds_revalue _

/-- The opener's D goes with V formed anew, or stays (R126 part 3). -/
theorem Occupation.keepsValue_unanchored : KeepsValue Occupation.unanchored := by
  intro o ho
  unfold unanchored
  split
  · exact valueHolds_revalue _
  · exact ho

/-- An anchor's D becomes 0 with V formed anew; another opener's D stays (R118). -/
theorem Occupation.keepsValue_anchoring (k : Nat) (anchor : Bool) :
    KeepsValue (Occupation.anchoring k anchor) := by
  intro o ho
  unfold anchoring
  split
  · exact valueHolds_revalue _
  · exact ho

theorem Occupation.keepsValue_interrupted : KeepsValue Occupation.interrupted := by
  intro o ho
  unfold interrupted
  split
  · exact valueHolds_of_not_closed nofun
  · exact ho

/-! ## Operations that change no record -/

namespace State

variable (s : State)

@[simp] theorem occupations_startEvaluation : s.startEvaluation.occupations = s.occupations := by
  obtain ⟨_, h⟩ := s.startEvaluation_frame
  rw [h]

@[simp] theorem occupations_withdraw (src : TideSource) :
    (s.withdraw src).occupations = s.occupations := by
  obtain ⟨_, h⟩ := s.withdraw_frame src
  rw [h]

@[simp] theorem occupations_placeOwed (h : Head) : (s.placeOwed h).occupations = s.occupations := by
  obtain ⟨_, _, hf⟩ := s.placeOwed_frame h
  rw [hf]

@[simp] theorem occupations_queueItem (i : RevItem) : (s.queueItem i).occupations = s.occupations := by
  obtain ⟨_, _, _, h⟩ := s.queueItem_frame i
  rw [h]

@[simp] theorem occupations_queueStationsOf (ns : List Nat) :
    (s.queueStationsOf ns).occupations = s.occupations :=
  occupations_queueAll _ s

@[simp] theorem occupations_dropInFlight : s.dropInFlight.occupations = s.occupations := by
  obtain ⟨_, _, h⟩ := s.dropInFlight_frame
  rw [h]

@[simp] theorem occupations_requestRedoStep : s.requestRedoStep.occupations = s.occupations := by
  obtain ⟨_, h⟩ := s.requestRedoStep_frame
  rw [h]

@[simp] theorem occupations_revise (b : Bool) : (s.revise b).occupations = s.occupations := by
  obtain ⟨_, _, _, _, _, h⟩ := s.revise_frame b
  rw [h]

theorem occupations_markTideStale (os : List Nat) :
    (s.markTideStale os).occupations
      = Table.modifyKeys s.occupations os fun o => { o with tideStale := true } := by
  obtain ⟨_, _, _, _, _, h⟩ := s.markTideStale_frame os
  rw [h]

@[simp] theorem occupations_removeMember (k n : Nat) :
    (s.removeMember k n).occupations = s.occupations := by
  obtain ⟨_, _, h⟩ := s.removeMember_frame k n
  rw [h]

theorem occupations_retire (slot : Nat) (chain : List Nat) :
    (s.retire slot chain).occupations
      = (s.abandonAll (s.loopsBasedAt slot)).occupations.filter fun e => !decide (e.1 ∈ chain) := by
  obtain ⟨_, _, _, _, _, h⟩ := s.retire_frame slot chain
  rw [h]

theorem occupations_delete (n : Nat) (o : Occupation) :
    (s.delete n o).occupations = Table.del (s.unbound n o).occupations n := by
  obtain ⟨_, _, _, _, _, h⟩ := s.delete_frame n o
  rw [h]

@[simp] theorem occupations_enterIntegrating (h : Head) (t : TimeMs) :
    (s.enterIntegrating h t).occupations = s.occupations := by
  obtain ⟨_, hf⟩ := s.enterIntegrating_frame h t
  rw [hf]

@[simp] theorem occupations_settleReached (h : Head) :
    (s.settleReached h).occupations = s.occupations := by
  obtain ⟨_, hf⟩ := s.settleReached_frame h
  rw [hf]

@[simp] theorem occupations_loseHead (h : Head) : (s.loseHead h).occupations = s.occupations := by
  obtain ⟨_, _, _, hf⟩ := s.loseHead_frame h
  rw [hf]

@[simp] theorem occupations_applyStaged (h : Head) :
    (s.applyStaged h).occupations = s.occupations := by
  obtain ⟨_, _, _, _, hf⟩ := s.applyStaged_frame h
  rw [hf]

@[simp] theorem occupations_acceptPulse : s.acceptPulse.occupations = s.occupations := by
  unfold acceptPulse
  dsimp only
  split <;> rfl

@[simp] theorem occupations_endScan : s.endScan.occupations = s.occupations := by
  unfold endScan
  split <;> rfl

end State

end Sys2Proof.Machine
end

section
/-! Every operation of the units keeps V = S̄ + T̄ − D in the CLOSED records (R87). -/

namespace Sys2Proof.Machine

/-- From `s` to `t` the CLOSED records keep V = S̄ + T̄ − D (R87). -/
def State.keepsValues (s t : State) : Prop := s.valuesHold → t.valuesHold

namespace State.keepsValues

theorem refl (s : State) : s.keepsValues s := id

theorem trans {s t u : State} (h : s.keepsValues t) (h' : t.keepsValues u) : s.keepsValues u :=
  fun hs => h' (h hs)

/-- An operation that changes no occupation record. -/
theorem of_occupations {s t : State} (h : t.occupations = s.occupations) : s.keepsValues t := by
  rw [State.keepsValues, State.valuesHold_iff, State.valuesHold_iff, h]
  exact id

/-- An operation followed by one that changes no occupation record. -/
theorem followed {s t u : State} (h : s.keepsValues t) (hu : u.occupations = t.occupations) :
    s.keepsValues u :=
  h.trans (of_occupations hu)

/-- Every record freed. -/
theorem of_empty {s t : State} (h : t.occupations = []) : s.keepsValues t := by
  intro _
  rw [State.valuesHold_iff, h]
  exact Table.each_nil

/-- What is done on a condition. -/
theorem ite {s t : State} {c : Prop} {_ : Decidable c} (h : s.keepsValues t) :
    s.keepsValues (if c then t else s) := by
  split
  · exact h
  · exact .refl s

theorem whenRunning {s : State} {act : State → State} (h : s.keepsValues (act s)) :
    s.keepsValues (s.whenRunning act) :=
  ite h

end State.keepsValues

namespace State

open Occupation

variable (s : State)

theorem keepsValues_modifyOccupation (n : Nat) {f : Occupation → Occupation}
    (hf : KeepsValue f) : s.keepsValues (s.modifyOccupation n f) :=
  fun h => Table.Each.modify (P := valueHolds) h hf n

theorem keepsValues_modifyKeys (ns : List Nat) {f : Occupation → Occupation}
    (hf : KeepsValue f) :
    s.keepsValues { s with occupations := Table.modifyKeys s.occupations ns f } :=
  fun h => Table.Each.modifyKeys (P := valueHolds) h hf ns

theorem keepsValues_modifyAll {f : Occupation → Occupation} (hf : KeepsValue f) :
    s.keepsValues { s with occupations := Table.modifyAll s.occupations f } :=
  fun h => Table.Each.modifyAll (P := valueHolds) h hf

/-! ## The Revision Engine and the Drift Unit -/

theorem keepsValues_markTideStale (os : List Nat) : s.keepsValues (s.markTideStale os) :=
  (s.keepsValues_modifyKeys os (f := fun o => { o with tideStale := true }) fun _ ho => ho).followed
    (s.occupations_markTideStale os)

theorem keepsValues_completeRedo (n : Nat) (held : List HeldResult) :
    s.keepsValues (s.completeRedo n held) := by
  unfold completeRedo
  split
  · exact .of_occupations rfl
  · exact (s.keepsValues_modifyOccupation n (keepsValue_redone held)).followed
      ((occupations_queueItem _ _).trans (occupations_queueAll _ _))

theorem keepsValues_redoResult (target step : Nat) (v : TideValue) :
    s.keepsValues (s.redoResult target step v) := by
  unfold redoResult
  split
  · split
    · dsimp only
      split
      · exact (s.keepsValues_completeRedo _ _).followed (occupations_revise _ _)
      · exact .of_occupations (occupations_requestRedoStep _)
    · exact .refl s
  · exact .refl s

theorem keepsValues_startLoop (n : Nat) (o : Occupation) (a : Bool) :
    s.keepsValues (s.startLoop n o a) := by
  unfold startLoop
  split
  · exact .of_occupations rfl
  · exact s.keepsValues_modifyOccupation n (keepsValue_anchoring _ a)

theorem keepsValues_closeLoop (k n : Nat) (o : Occupation) : s.keepsValues (s.closeLoop k n o) := by
  unfold closeLoop
  refine .trans (.followed ?_ (occupations_queueItem _ _)) (keepsValues_startLoop _ n o false)
  exact (s.modifyLoop k _).keepsValues_modifyOccupation n fun _ ho => ho

theorem keepsValues_joinLoop (k : Nat) (l : Loop) (n : Nat) : s.keepsValues (s.joinLoop k l n) := by
  unfold joinLoop
  split
  · exact (s.modifyLoop k _).keepsValues_modifyOccupation n fun _ ho => ho
  · exact .of_occupations rfl

/-- The four cases of R115: the OPEN loop closed or joined, a loop opened, or nothing. -/
theorem keepsValues_handOver (n : Nat) : s.keepsValues (s.handOver n) := by
  unfold handOver
  split
  · exact .refl s
  · split
    · split
      · exact s.keepsValues_closeLoop _ n _
      · exact s.keepsValues_joinLoop _ _ n
    · exact (s.keepsValues_startLoop n _ true).ite

/-- The drift terms of the closer and the members are written with V formed anew (R123, R124). -/
theorem keepsValues_applyLoop (k : Nat) (l : Loop) (c : Nat) (oa ob : Occupation) :
    s.keepsValues (s.applyLoop k l c oa ob) :=
  (s.keepsValues_modifyKeys (l.members ++ [c]) (keepsValue_drifted _ _)).followed
    (occupations_queueStationsOf _ _)

theorem keepsValues_completeApply (k : Nat) : s.keepsValues (s.completeApply k) := by
  have hdropped : s.keepsValues { s with inFlight := none } := .of_occupations rfl
  unfold completeApply
  dsimp only
  split
  · exact hdropped
  · split
    · exact hdropped
    · split
      · exact hdropped.trans (keepsValues_applyLoop _ _ _ _ _ _)
      · exact hdropped

theorem keepsValues_endApply : s.keepsValues s.endApply := by
  unfold endApply
  split
  · exact (s.keepsValues_completeApply _).followed (occupations_revise _ _)
  · exact .refl s

/-- The terms withdrawn of members, closer and opener, V formed anew with each (R126 parts 1 to 3). -/
theorem keepsValues_withdrawTerms (l : Loop) : s.keepsValues (s.withdrawTerms l) := by
  have hmembers := s.keepsValues_modifyKeys l.members keepsValue_unmembered
  have hopener (t : State) := t.keepsValues_modifyOccupation l.opener keepsValue_unanchored
  unfold withdrawTerms
  dsimp only
  split
  · exact (hmembers.trans (keepsValues_modifyOccupation _ _ keepsValue_unclosed)).trans (hopener _)
  · exact hmembers.trans (hopener _)

theorem keepsValues_abandon (k : Nat) : s.keepsValues (s.abandon k) := by
  unfold abandon
  split
  · exact .refl s
  · exact (s.keepsValues_withdrawTerms _).followed
      ((occupations_queueStationsOf _ _).trans (occupations_dropApply _ k))

theorem keepsValues_abandonAll (ks : List Nat) : ∀ s : State, s.keepsValues (s.abandonAll ks) := by
  induction ks with
  | nil => exact .refl
  | cons k ks ih => exact fun s => (s.keepsValues_abandon k).trans (ih _)

theorem keepsValues_resolveRoles (n : Nat) (o : Occupation) : s.keepsValues (s.resolveRoles n o) := by
  unfold resolveRoles
  dsimp only
  split
  · exact (keepsValues.of_occupations (s.occupations_removeMember _ n)).trans
      (keepsValues_abandonAll _ _)
  · exact keepsValues_abandonAll _ s

/-- A released loop's records keep D and V (R127). -/
theorem keepsValues_release (k : Nat) (l : Loop) : s.keepsValues (s.release k l) :=
  (s.keepsValues_modifyKeys (l.members ++ l.closer.toList) (f := frozen) fun _ ho => ho).trans
    (keepsValues_modifyOccupation _ l.opener (f := releasedOpener) fun _ ho => ho)

/-! ## The Occupation Engines -/

theorem keepsValues_failOccupation (h : Head) (c : FailCause) :
    s.keepsValues (s.failOccupation h c) := by
  unfold failOccupation
  split
  · exact .refl s
  · refine .followed ?_ (occupations_withdraw _ _)
    exact s.keepsValues_modifyOccupation _ fun _ _ => valueHolds_of_not_closed OccState.noConfusion

/-- The record is written CLOSED with its V, and the Drift Unit gives it its loop role (R63). -/
theorem keepsValues_closeOccupation (h : Head) : s.keepsValues (s.closeOccupation h) := by
  unfold closeOccupation
  split
  · next w g _ grade _ =>
    split
    · next o _ =>
      have hclose := s.keepsValues_modifyOccupation w.occupation
        (keepsValue_close g grade (s.staleAtClose o))
      have hstale := hclose.trans (u := if s.staleAtClose o
        then (s.modifyOccupation w.occupation _).queueItem ⟨.tideRedo, w.occupation⟩ else _)
        (keepsValues.of_occupations (occupations_queueItem _ _)).ite
      exact (hstale.trans (keepsValues_handOver _ w.occupation)).followed
        ((occupations_revise _ _).trans (occupations_queueItem _ _))
    · exact .refl s
  · exact .refl s

theorem keepsValues_closeIfReady (h : Head) : s.keepsValues (s.closeIfReady h) := by
  unfold closeIfReady
  split
  · exact (s.keepsValues_closeOccupation h).ite
  · exact .refl s

theorem keepsValues_endIntegration (h : Head) (d : Ending) : s.keepsValues (s.endIntegration h d) := by
  unfold endIntegration
  split
  · split
    · exact s.keepsValues_failOccupation h _
    · exact (s.setEngine h _).keepsValues_closeIfReady h
  · exact .refl s

theorem keepsValues_targetReached (h : Head) : s.keepsValues (s.targetReached h) := by
  unfold targetReached
  split
  · exact (s.keepsValues_endIntegration h _).ite
  · exact .refl s

theorem keepsValues_stopIntegration (h : Head) : s.keepsValues (s.stopIntegration h) := by
  unfold stopIntegration
  split
  · split
    · exact s.keepsValues_failOccupation h _
    · exact s.keepsValues_endIntegration h _
  · exact .refl s

theorem keepsValues_capIntegration (h : Head) : s.keepsValues (s.capIntegration h) := by
  unfold capIntegration
  split
  · split
    · exact s.keepsValues_failOccupation h _
    · exact s.keepsValues_endIntegration h _
  · exact .refl s

/-- A sample changes counts and steps of its record, and neither means nor V (R54, R55). -/
theorem keepsValues_engineSample (h : Head) (x : Sample) : s.keepsValues (s.engineSample h x) := by
  unfold engineSample
  split
  · split
    · exact s.keepsValues_failOccupation h _
    · exact .of_occupations (occupations_settleReached _ h)
  · next w g _ =>
    split
    · exact s.keepsValues_failOccupation h _
    · split
      · refine .trans (.followed ?_ (occupations_placeOwed _ h)) (keepsValues_targetReached _ h)
        refine .followed ?_ (setEngine_occupations _ h _)
        exact s.keepsValues_modifyOccupation w.occupation fun _ ho => ho
      · exact s.keepsValues_modifyOccupation w.occupation fun _ ho => ho
  · exact .refl s
  · exact .refl s

theorem keepsValues_engineCorrupt (h : Head) : s.keepsValues (s.engineCorrupt h) := by
  unfold engineCorrupt
  split
  · exact s.keepsValues_modifyOccupation _ fun _ ho => ho
  · exact .refl s

theorem keepsValues_engineGap (h : Head) (m : Nat) : s.keepsValues (s.engineGap h m) := by
  unfold engineGap
  split
  · exact s.keepsValues_modifyOccupation _ fun _ ho => ho
  · exact .refl s

theorem keepsValues_engineResult (h : Head) (target step : Nat) (v : TideValue) :
    s.keepsValues (s.engineResult h target step v) := by
  unfold engineResult
  split
  · split
    · refine .trans (.followed ?_ (occupations_placeOwed _ h)) (keepsValues_closeIfReady _ h)
      refine .followed ?_ (setEngine_occupations _ h _)
      exact s.keepsValues_modifyOccupation _ fun _ ho => ho
    · exact .of_occupations (s.occupations_placeOwed h)
  · exact .refl s

theorem keepsValues_completeEvaluation : s.keepsValues s.completeEvaluation := by
  unfold completeEvaluation
  split
  · exact .refl s
  · dsimp only
    split
    · exact .of_occupations (occupations_startEvaluation _)
    · have htide (t : TideEngine) : s.keepsValues { s with tide := t } := .of_occupations rfl
      refine .followed ?_ (occupations_startEvaluation _)
      split
      · exact (htide _).trans (keepsValues_engineResult _ _ _ _ _)
      · exact (htide _).trans (keepsValues_redoResult _ _ _ _)

/-! ## Characters on the head lines -/

theorem keepsValues_countCorrupt (h : Head) (r : Receiver) : s.keepsValues (s.countCorrupt h r) :=
  (s.setChannel h _).keepsValues_engineCorrupt h

theorem keepsValues_checkFrame (h : Head) (frame : List Byte) :
    s.keepsValues (s.checkFrame h frame) := by
  unfold checkFrame
  split
  · exact ((s.setChannel h _).keepsValues_engineGap h _).trans (keepsValues_engineSample _ h _)
  · exact s.keepsValues_countCorrupt h _

theorem keepsValues_receiveCharacter (h : Head) (b : Byte) :
    s.keepsValues (s.receiveCharacter h b) := by
  unfold receiveCharacter
  dsimp only
  split
  · exact (s.setChannel h _).keepsValues_checkFrame h _
  · exact .of_occupations rfl

theorem keepsValues_framingError (h : Head) : s.keepsValues (s.framingError h) := by
  unfold framingError
  dsimp only
  split
  · exact .of_occupations rfl
  · exact s.keepsValues_countCorrupt h _

/-! ## Records put and freed, and the start -/

/-- The record just put is OPEN (R50 part 3). -/
theorem keepsValues_openOccupation (q : Opening) : s.keepsValues (s.openOccupation q) := by
  have happlied : s.keepsValues (s.applyStaged q.head) := .of_occupations (s.occupations_applyStaged _)
  have hput (t : State) (g : Gen) : t.keepsValues
      { t with occupations := Table.put t.occupations q.number (Occupation.fresh q g) } :=
    fun ht => Table.Each.put (P := valueHolds) ht (valueHolds_of_not_closed OccState.noConfusion) q.number
  exact (happlied.trans (hput _ _)).followed (occupations_loseHead _ q.head)

theorem keepsValues_delete (n : Nat) (o : Occupation) : s.keepsValues (s.delete n o) := by
  have hunbound : s.keepsValues (s.unbound n o) := (s.keepsValues_resolveRoles n o).ite
  intro hs
  rw [valuesHold_iff, occupations_delete]
  exact Table.Each.filter (P := valueHolds) (hunbound hs) _

theorem keepsValues_retire (slot : Nat) (chain : List Nat) : s.keepsValues (s.retire slot chain) := by
  intro hs
  rw [valuesHold_iff, occupations_retire]
  exact Table.Each.filter (P := valueHolds) (keepsValues_abandonAll _ s hs) _

theorem keepsValues_clear (part : Partition) : s.keepsValues (s.clear part) := by
  rw [clear_eq]
  exact .of_empty rfl

theorem keepsValues_setIncluded (n : Nat) (o : Occupation) (b : Bool) :
    s.keepsValues (s.setIncluded n o b) := by
  refine .followed ?_ ((occupations_revise _ _).trans (occupations_queueItem _ _))
  exact s.keepsValues_modifyOccupation n fun _ ho => ho

theorem keepsValues_applyEdit (slot : Nat) (st : Station) (e : StationEdit) :
    s.keepsValues (s.applyEdit slot st e) := by
  unfold applyEdit
  dsimp only
  split
  · exact (keepsValues_markTideStale { s with
      stations := Table.put s.stations slot (st.edited e)
      nameIndex := Table.put s.nameIndex slot (st.edited e).name } _).followed
        (occupations_revise _ _)
  · exact .of_occupations rfl

theorem keepsValues_writeEntry (i : Nat) (c : Constituent) : s.keepsValues (s.writeEntry i c) :=
  (keepsValues_markTideStale { s with
    constituents := s.constituents.set i c, tableGen := s.tableGen + 1 } _).followed
      (occupations_revise _ _)

theorem keepsValues_start : s.keepsValues s.start := by
  unfold start
  dsimp only
  split
  · exact (s.resetMain.keepsValues_modifyAll keepsValue_interrupted).followed
      ((occupations_revise _ _).trans (occupations_queueAll _ _))
  · exact .of_occupations rfl

end State

end Sys2Proof.Machine
end

section
/-! Every command, and so every step, keeps V = S̄ + T̄ − D in the CLOSED records (R87). -/

namespace Sys2Proof.Machine

/-! ## The owners of the requests -/

/-- Serving keeps V = S̄ + T̄ − D. -/
def Server.KeepsValues (serve : Server) : Prop :=
  ∀ (p : List Byte) (s : State), s.keepsValues (serve p s).1

theorem State.keepsValues_receiveFrame {s : State} {act : State → State}
    (hact : s.taken.keepsValues (act s.taken)) (tag : Byte) (p : List Byte) :
    s.keepsValues (s.receiveFrame tag p act) := by
  obtain h | h | h | h | h := s.receiveFrame_cases tag p act
  case inr.inr.inr.inr =>
    rw [h]
    exact .trans (.of_occupations s.taken_occupations) hact
  all_goals
    rw [h]
    exact .of_occupations rfl

theorem State.keepsValues_request {serve : Server} (hs : serve.KeepsValues) (s : State) (tag : Byte)
    (p : List Byte) : s.keepsValues (s.request tag p serve) :=
  State.keepsValues_receiveFrame (act := fun s' => (serve p s').1.respond tag (serve p s').2)
    ((hs p s.taken).followed (State.respond_occupations _ _ _)) tag p

namespace Server

theorem keepsValues_fixedForm {n : Nat} {serve : Server} (hs : serve.KeepsValues) :
    KeepsValues (fixedForm n serve) := by
  intro p s
  unfold fixedForm
  split
  · exact hs p s
  · exact .refl s

theorem keepsValues_readForm (n : Nat) (answer : List Byte → State → Answer) :
    KeepsValues (readForm n answer) :=
  keepsValues_fixedForm fun _ s => .refl s

theorem keepsValues_declareStation : KeepsValues serveDeclareStation :=
  keepsValues_fixedForm fun p s => by
    unfold declareStation
    split
    · split
      · exact .refl s
      · split
        · exact .refl s
        · exact .of_occupations rfl
    · exact .refl s

theorem keepsValues_editStation : KeepsValues serveEditStation :=
  keepsValues_fixedForm fun p s => by
    unfold editStation
    split
    · exact .refl s
    · split
      · exact .refl s
      · split
        · exact .refl s
        · split
          · exact .refl s
          · exact s.keepsValues_applyEdit _ _ _

theorem keepsValues_retireStation : KeepsValues serveRetireStation :=
  keepsValues_fixedForm fun p s => by
    unfold retireStation
    split
    · exact .refl s
    · split
      · exact .refl s
      · exact s.keepsValues_retire _ _

theorem keepsValues_clearSurvey : KeepsValues serveClearSurvey :=
  keepsValues_fixedForm fun p s => by
    unfold clearSurvey
    split
    · exact .refl s
    · split
      · exact .refl s
      · exact s.keepsValues_clear _

theorem keepsValues_openOccupation : KeepsValues serveOpenOccupation :=
  keepsValues_fixedForm fun p s => by
    unfold openOccupation
    split
    · exact .refl s
    · exact s.keepsValues_openOccupation _

theorem keepsValues_onHead {serve : Head → State → State × Answer}
    (hs : ∀ (h : Head) (s : State), s.keepsValues (serve h s).1) : KeepsValues (onHead serve) :=
  keepsValues_fixedForm fun p s => by
    split
    · exact .refl s
    · exact hs _ s

theorem keepsValues_forceIntegrate : KeepsValues serveForceIntegrate :=
  keepsValues_onHead fun h s => by
    unfold forceIntegrate
    split
    · exact .of_occupations (s.occupations_enterIntegrating h _)
    · exact .refl s

theorem keepsValues_stopOccupation : KeepsValues serveStopOccupation :=
  keepsValues_onHead fun h s => by
    unfold stopOccupation
    split
    · exact s.keepsValues_stopIntegration h
    · exact .refl s

theorem keepsValues_cancelOccupation : KeepsValues serveCancelOccupation :=
  keepsValues_onHead fun h s => by
    unfold cancelOccupation
    split
    · exact s.keepsValues_failOccupation h _
    · exact .refl s

theorem keepsValues_includeRequest (b : Bool) (n : Nat) (s : State) :
    s.keepsValues (includeRequest b n s).1 := by
  unfold includeRequest
  split
  · exact .refl s
  · split
    · exact s.keepsValues_setIncluded n _ b
    · exact .refl s

theorem keepsValues_excludeOccupation : KeepsValues serveExcludeOccupation :=
  keepsValues_fixedForm fun _ s => keepsValues_includeRequest false _ s

theorem keepsValues_includeOccupation : KeepsValues serveIncludeOccupation :=
  keepsValues_fixedForm fun _ s => keepsValues_includeRequest true _ s

theorem keepsValues_deleteOccupation : KeepsValues serveDeleteOccupation :=
  keepsValues_fixedForm fun p s => by
    unfold deleteOccupation
    split
    · exact .refl s
    · split
      · exact .refl s
      · exact s.keepsValues_delete _ _

theorem keepsValues_abandonLoop : KeepsValues serveAbandonLoop :=
  keepsValues_fixedForm fun p s => by
    unfold abandonLoop
    split
    · exact .refl s
    · exact (s.keepsValues_abandon _).followed (State.occupations_revise _ _)

theorem keepsValues_releaseLoop : KeepsValues serveReleaseLoop :=
  keepsValues_fixedForm fun p s => by
    unfold releaseLoop
    split
    · exact .refl s
    · split
      · exact s.keepsValues_release _ _
      · exact .refl s

theorem keepsValues_headReset : KeepsValues serveHeadReset :=
  keepsValues_fixedForm fun p s => by
    unfold headReset
    split
    · exact .refl s
    · exact ((s.setChannel _ .reset).keepsValues_failOccupation _ _).followed
        (State.occupations_withdraw _ _)

theorem keepsValues_stageCalibration : KeepsValues serveStageCalibration := fun p s => by
  unfold serveStageCalibration stageCalibration
  split
  · exact .refl s
  · exact .of_occupations rfl

theorem keepsValues_writeConstituent : KeepsValues serveWriteConstituent :=
  keepsValues_fixedForm fun p s => by
    unfold writeConstituent
    dsimp only
    split
    · exact .refl s
    · split
      · exact .refl s
      · exact s.keepsValues_writeEntry _ _

theorem keepsValues_setConstants : KeepsValues serveSetConstants :=
  keepsValues_fixedForm fun _ _ =>
    .of_occupations ((State.occupations_revise _ _).trans (State.occupations_queueAll _ _))

theorem keepsValues_setTime : KeepsValues serveSetTime :=
  keepsValues_fixedForm fun p s => by
    unfold setTime
    split
    · exact .refl s
    · split
      · exact .refl s
      · exact .of_occupations rfl

theorem keepsValues_syncToPulse : KeepsValues serveSyncToPulse :=
  keepsValues_fixedForm fun p s => by
    unfold syncToPulse
    split
    · exact .refl s
    · exact .of_occupations rfl

theorem keepsValues_clearNotices : KeepsValues serveClearNotices :=
  keepsValues_fixedForm fun _ _ => .of_occupations rfl

theorem keepsValues_setNoticeMask : KeepsValues serveSetNoticeMask :=
  keepsValues_fixedForm fun _ _ => .of_occupations rfl

theorem keepsValues_unknown : KeepsValues serveUnknown := fun _ s => .refl s

end Server

/-! ## Frames and transfers -/

namespace State

variable (s : State)

theorem keepsValues_requestFindNear (tag : Byte) (p : List Byte) :
    s.keepsValues (s.requestFindNear tag p) := by
  refine keepsValues_receiveFrame ?_ tag p
  unfold takeFindNear
  split <;> exact .of_occupations rfl

theorem keepsValues_linkReset (tag : Byte) (p : List Byte) : s.keepsValues (s.linkReset tag p) := by
  unfold linkReset
  split
  · split
    · exact .refl s
    · split <;> exact .of_occupations rfl
  · exact keepsValues_request (serve := fun _ s' => (s', refusal .badField)) (fun _ s' => .refl s') s
      tag p

/-- A good request frame keeps the values, whatever its code. -/
theorem keepsValues_serveFrame (r : Request) : s.keepsValues (s.serveFrame r) := by
  unfold serveFrame
  split
  case h_1 => exact keepsValues_request Server.keepsValues_declareStation _ _ _
  case h_2 => exact keepsValues_request Server.keepsValues_editStation _ _ _
  case h_5 => exact s.keepsValues_requestFindNear _ _
  case h_6 => exact keepsValues_request Server.keepsValues_retireStation _ _ _
  case h_7 => exact keepsValues_request Server.keepsValues_clearSurvey _ _ _
  case h_8 => exact keepsValues_request Server.keepsValues_openOccupation _ _ _
  case h_9 => exact keepsValues_request Server.keepsValues_forceIntegrate _ _ _
  case h_10 => exact keepsValues_request Server.keepsValues_stopOccupation _ _ _
  case h_11 => exact keepsValues_request Server.keepsValues_cancelOccupation _ _ _
  case h_13 => exact keepsValues_request Server.keepsValues_excludeOccupation _ _ _
  case h_14 => exact keepsValues_request Server.keepsValues_includeOccupation _ _ _
  case h_15 => exact keepsValues_request Server.keepsValues_deleteOccupation _ _ _
  case h_17 => exact keepsValues_request Server.keepsValues_abandonLoop _ _ _
  case h_18 => exact keepsValues_request Server.keepsValues_releaseLoop _ _ _
  case h_20 => exact keepsValues_request Server.keepsValues_headReset _ _ _
  case h_21 => exact keepsValues_request Server.keepsValues_stageCalibration _ _ _
  case h_23 => exact keepsValues_request Server.keepsValues_writeConstituent _ _ _
  case h_25 => exact keepsValues_request Server.keepsValues_setConstants _ _ _
  case h_26 => exact keepsValues_request Server.keepsValues_setTime _ _ _
  case h_27 => exact keepsValues_request Server.keepsValues_syncToPulse _ _ _
  case h_30 => exact keepsValues_request Server.keepsValues_clearNotices _ _ _
  case h_31 => exact keepsValues_request Server.keepsValues_setNoticeMask _ _ _
  case h_32 => exact s.keepsValues_linkReset _ _
  case h_33 => exact keepsValues_request Server.keepsValues_unknown _ _ _
  all_goals exact keepsValues_request (Server.keepsValues_readForm _ _) _ _ _

theorem keepsValues_transfer (mosi : List Byte) : s.keepsValues (s.transfer mosi) := by
  unfold transfer
  split
  · exact .of_occupations rfl
  · split
    · unfold requestTransfer
      split
      · exact s.keepsValues_serveFrame _
      · exact .of_occupations s.rejected_occupations
    · split <;> exact .of_occupations rfl

end State

/-! ## The step -/

/-- Every event of a line, a unit, time or supply keeps the values. -/
theorem event_keepsValues {c : Instr} (hr : c.request? = none) (s : State) :
    ∃ t, exec c s = .next t ∧ s.keepsValues t := by
  cases c
  case findNearScanEnd => exact ⟨_, rfl, .ite (.of_occupations s.occupations_endScan)⟩
  case badRequestFrame => exact ⟨_, rfl, .whenRunning (s.keepsValues_transfer _)⟩
  case fetchTransfer => exact ⟨_, rfl, .whenRunning (.of_occupations (s.fetch_occupations _))⟩
  case statusTransfer => exact ⟨_, rfl, .whenRunning (s.keepsValues_transfer _)⟩
  case headFrame h b => exact ⟨_, rfl, .whenRunning (s.keepsValues_receiveCharacter h b)⟩
  case headLineCharacter h b => exact ⟨_, rfl, .whenRunning (s.keepsValues_receiveCharacter h b)⟩
  case characterFramingError h => exact ⟨_, rfl, .whenRunning (s.keepsValues_framingError h)⟩
  case frameBrokenOff h => exact ⟨_, rfl, .whenRunning (.ite (s.keepsValues_countCorrupt h _))⟩
  case headTimeout h => exact ⟨_, rfl, .whenRunning (.of_occupations (s.occupations_loseHead h))⟩
  case settleCountReached h =>
    exact ⟨_, rfl, .whenRunning (.of_occupations (s.occupations_settleReached h))⟩
  case targetReached h => exact ⟨_, rfl, .whenRunning (s.keepsValues_targetReached h)⟩
  case settlingDeadline h => exact ⟨_, rfl, .whenRunning (.ite (s.keepsValues_failOccupation h _))⟩
  case capDeadline h => exact ⟨_, rfl, .whenRunning (.ite (s.keepsValues_capIntegration h))⟩
  case tideEvaluationComplete => exact ⟨_, rfl, .whenRunning s.keepsValues_completeEvaluation⟩
  case driftApplyComplete => exact ⟨_, rfl, .whenRunning s.keepsValues_endApply⟩
  case timePulse =>
    exact ⟨_, rfl, .whenRunning (.ite (.of_occupations s.occupations_acceptPulse))⟩
  case pulseLoss => exact ⟨_, rfl, .whenRunning (.ite (.of_occupations rfl))⟩
  case clockHoldAtMax => exact ⟨_, rfl, .of_occupations rfl⟩
  case partStart =>
    exact ⟨_, rfl, State.keepsValues_start { s with vdd := true, resetLow := false }⟩
  case backupLostStartup => exact ⟨_, rfl, .ite (.of_empty rfl)⟩
  case resetNAssert => exact ⟨_, rfl, .of_occupations rfl⟩
  case vddFail => exact ⟨_, rfl, .of_occupations rfl⟩
  case backupDomainLoss => exact ⟨_, rfl, .of_empty rfl⟩
  all_goals cases hr

theorem exec_keepsValues {c : Instr} {s t : State} (h : exec c s = .next t) : s.keepsValues t := by
  cases hr : c.request? with
  | some r =>
    rw [exec_of_request hr] at h
    cases h
    exact s.keepsValues_serveFrame r
  | none =>
    obtain ⟨t', ht, hk⟩ := event_keepsValues hr s
    rw [ht] at h
    cases h
    exact hk

theorem step_keepsValues {s t : State} (h : step s = .next t) : s.keepsValues t := by
  unfold step at h
  split at h
  · cases h
    exact .of_occupations rfl
  · next rest _ => exact .trans (.of_occupations (s.withPending_occupations rest)) (exec_keepsValues h)

/-- Settles O56: every command keeps V = S̄ + T̄ − D in the CLOSED records, as each change of such a
record forms V anew or leaves it and its terms as they are. -/
theorem valueLawKept : Obligations.ValueLawKept :=
  fun _ _ hs h => step_keepsValues h hs

end Sys2Proof.Machine
end

section
/-! The sizes of the sine, the latitude factors and the terms of the tide formula, and the bound on the
tide attraction that follows from them (R94 to R101). -/

namespace Sys2Proof.Machine

/-! ## The sine -/

/-- No entry of the sine table is above 32,767 (R94). -/
theorem sineTableParts_le : ∀ part ∈ sineTableParts, ∀ x ∈ part, x ≤ 32767 := by
  decide +kernel

theorem sineEntry_le (i : Nat) : sineEntry i ≤ 32767 := by
  have getD_le {part : List Nat} (h : ∀ x ∈ part, x ≤ 32767) (j : Nat) : part.getD j 0 ≤ 32767 := by
    rcases lt_or_ge j part.length with hj | hj
    · rw [List.getD_eq_getElem _ _ hj]
      exact h _ (List.getElem_mem hj)
    · rw [List.getD_eq_default _ _ hj]
      exact Nat.zero_le _
  refine getD_le ?_ _
  rcases lt_or_ge (i / 64) sineTableParts.length with hi | hi
  · rw [List.getD_eq_getElem _ _ hi]
    exact sineTableParts_le _ (List.getElem_mem hi)
  · rw [List.getD_eq_default _ _ hi]
    exact nofun

/-- Interpolation between two entries goes above neither (R95 part 5). -/
theorem interpolation_le {a b m f : Nat} (ha : a ≤ m) (hb : b ≤ m) (hf : f < 2097152) :
    a + ((b - a) * f + 1048576) / 2097152 ≤ m := by
  have hmul : (b - a) * f ≤ (b - a) * 2097151 := Nat.mul_le_mul_left _ (by omega)
  omega

theorem firstQuadrant_le (r : Nat) : firstQuadrant r ≤ 32767 := by
  unfold firstQuadrant
  dsimp only
  split
  · exact sineEntry_le _
  · exact interpolation_le (sineEntry_le _) (sineEntry_le _) (Nat.mod_lt _ (by decide))

theorem natAbs_sinQ15_le (a : Nat) : (sinQ15 a).natAbs ≤ 32767 := by
  unfold sinQ15
  dsimp only
  split
  · rw [Int.natAbs_natCast]
    exact firstQuadrant_le _
  · rw [Int.natAbs_neg, Int.natAbs_natCast]
    exact firstQuadrant_le _

theorem natAbs_cosQ15_le (a : Nat) : (cosQ15 a).natAbs ≤ 32767 := natAbs_sinQ15_le _

/-! ## The latitude factors -/

/-- The square of a sine or cosine, rounded, stays in Q15 (R97). -/
theorem roundedSquare_range {x : Int} (hx : x.natAbs ≤ 32767) :
    0 ≤ roundDiv (x * x) 32768 ∧ roundDiv (x * x) 32768 ≤ 32767 := by
  have hmul := Nat.mul_le_mul hx hx
  have hxx : x * x = (x.natAbs * x.natAbs : Nat) := by simp
  have hnear := roundDiv_near (x * x) (b := 32768) (by decide)
  generalize roundDiv (x * x) 32768 = q at *
  generalize x.natAbs * x.natAbs = y at *
  omega

theorem natAbs_roundedHalf_le {q : Int} (h0 : 0 ≤ q) (h1 : q ≤ 32767) :
    (roundDiv (32767 - 3 * q) 2).natAbs ≤ 32767 := by
  rw [natAbs_roundDiv]
  omega

theorem natAbs_f0_le (latitude : Int) : (latitudeFactors latitude).f0.natAbs ≤ 32767 := by
  obtain ⟨h0, h1⟩ := roundedSquare_range (natAbs_sinQ15_le (binaryAngle latitude))
  exact natAbs_roundedHalf_le h0 h1

theorem natAbs_f1_le (latitude : Int) : (latitudeFactors latitude).f1.natAbs ≤ 32767 := by
  have natAbs_clamped_le (v : Int) : (clampInt (-32767) 32767 v).natAbs ≤ 32767 := by
    have hclamp := clampInt_range (lo := -32767) (hi := 32767) (by omega) v
    omega
  exact natAbs_clamped_le _

theorem natAbs_f2_le (latitude : Int) : (latitudeFactors latitude).f2.natAbs ≤ 32767 := by
  have natAbs_square_le {x : Int} (hx : x.natAbs ≤ 32767) :
      (roundDiv (x * x) 32768).natAbs ≤ 32767 := by
    have hsquare := roundedSquare_range hx
    omega
  exact natAbs_square_le (natAbs_cosQ15_le (binaryAngle latitude))

/-- What bounds the three factors bounds the one a species selects (R97). -/
theorem LatitudeFactors.natAbs_of_le {f : LatitudeFactors} {m : Nat} (h0 : f.f0.natAbs ≤ m)
    (h1 : f.f1.natAbs ≤ m) (h2 : f.f2.natAbs ≤ m) (species : Species) :
    (f.of species).natAbs ≤ m := by
  cases species with
  | longPeriod => exact h0
  | diurnal => exact h1
  | semidiurnal => exact h2

theorem natAbs_latitudeFactor_le (latitude : Int) (species : Species) :
    ((latitudeFactors latitude).of species).natAbs ≤ 32767 :=
  LatitudeFactors.natAbs_of_le (natAbs_f0_le latitude) (natAbs_f1_le latitude)
    (natAbs_f2_le latitude) species

/-! ## The terms and their sum -/

/-- What an entry adds to the sum of |A| × δ. -/
def Constituent.amplitudeTerm (c : Constituent) : Nat :=
  if c.enabled then c.amplitude.natAbs * c.delta else 0

@[simp] theorem amplitudeSum_cons (c : Constituent) (cs : List Constituent) :
    amplitudeSum (c :: cs) = c.amplitudeTerm + amplitudeSum cs := rfl

/-- The latitude factor and the cosine together are below 32,768², so a term is within |A| × δ × 32,767²
(R99). -/
theorem natAbs_term_le (c : Constituent) (latitude : Int) (instant : Nat) (longitude : Int) :
    (c.term (latitudeFactors latitude) instant longitude).natAbs ≤ c.amplitudeTerm * 32767 ^ 2 := by
  unfold Constituent.term Constituent.amplitudeTerm
  split
  · have hf := natAbs_latitudeFactor_le latitude c.species
    have hcos := natAbs_cosQ15_le (c.phase instant longitude)
    simp only [Int.natAbs_mul, Int.natAbs_natCast]
    calc _ ≤ c.amplitude.natAbs * 32767 * 32767 * c.delta := by gcongr
      _ = c.amplitude.natAbs * c.delta * 32767 ^ 2 := by ring
  · simp

theorem natAbs_termSum_le (latitude : Int) (instant : Nat) (longitude : Int) (cs : List Constituent) :
    (termSum (latitudeFactors latitude) instant longitude cs).natAbs
      ≤ amplitudeSum cs * 32767 ^ 2 := by
  induction cs with
  | nil => simp [termSum]
  | cons c cs ih =>
    have hc := natAbs_term_le c latitude instant longitude
    have hadd := Int.natAbs_add_le (c.term (latitudeFactors latitude) instant longitude)
      (termSum (latitudeFactors latitude) instant longitude cs)
    rw [termSum, amplitudeSum_cons, Nat.add_mul]
    omega

/-- An entry in range adds 8,191 × 32,767 at most (R91). -/
theorem Constituent.inRange.amplitudeTerm_le {c : Constituent} (h : c.inRange) :
    c.amplitudeTerm ≤ 8191 * 32767 := by
  obtain ⟨-, -, hlo, hhi, hdelta⟩ := h
  unfold Constituent.amplitudeTerm
  split
  · exact Nat.mul_le_mul (by omega) hdelta
  · exact Nat.zero_le _

theorem amplitudeSum_le {cs : List Constituent} (h : ∀ c ∈ cs, c.inRange) :
    amplitudeSum cs ≤ cs.length * (8191 * 32767) := by
  induction cs with
  | nil => exact Nat.zero_le _
  | cons c cs ih =>
    have hc := (h c List.mem_cons_self).amplitudeTerm_le
    have hcs := ih fun c' hc' => h c' (List.mem_cons_of_mem _ hc')
    rw [amplitudeSum_cons, List.length_cons, Nat.add_mul]
    omega

/-- Settles O44: the sum is within Σ|A| × δ × 32,767² and is divided by 2⁴⁴, which even rounded stays
within Σ|A| × δ / 2¹⁴ rounded up. -/
theorem tideAttractionBounded : Obligations.TideAttractionBounded := by
  refine ⟨fun cs instant latitude longitude => ?_, by decide, fun cs ⟨hlen, hrange⟩ => ?_⟩
  · have hsum := natAbs_termSum_le latitude instant longitude cs
    rw [tideAttraction, natAbs_roundDiv]
    omega
  · have hsum := amplitudeSum_le hrange
    rw [hlen] at hsum
    omega

end Sys2Proof.Machine
end

section
/-! WRITE_CONSTITUENT: the entry written, the CLOSED occupations marked, and what an evaluation in flight
has copied, which stays (R104, R108, R109). -/

namespace Sys2Proof.Machine

theorem Species.ofCode_eq_none {b : Byte} : Species.ofCode b = none ↔ 2 < b.toNat := by
  unfold Species.ofCode
  split <;> simp_all
  omega

/-! ## The evaluation in flight -/

/-- From `s` to `t` an evaluation in flight keeps its request and its copies; it may become void
(R104, R106). -/
def State.keepsEvaluation (s t : State) : Prop :=
  ∀ e, s.tide.evaluation = some e → ∃ v, t.tide.evaluation = some { e with isVoid := v }

namespace State.keepsEvaluation

theorem of_evaluation_eq {s t : State} (h : t.tide.evaluation = s.tide.evaluation) :
    s.keepsEvaluation t :=
  fun e he => ⟨e.isVoid, h.trans he⟩

theorem refl (s : State) : s.keepsEvaluation s := of_evaluation_eq rfl

theorem trans {s t u : State} (h : s.keepsEvaluation t) (h' : t.keepsEvaluation u) :
    s.keepsEvaluation u := by
  intro e he
  obtain ⟨v, hv⟩ := h e he
  exact h' { e with isVoid := v } hv

end State.keepsEvaluation

namespace State

variable (s : State)

/-- A busy engine starts nothing (R103). -/
theorem keepsEvaluation_startEvaluation : s.keepsEvaluation s.startEvaluation := by
  intro e he
  rw [startEvaluation_of_busy (by simp [he])]
  exact ⟨e.isVoid, he⟩

theorem keepsEvaluation_placeRequest (src : TideSource) (r : TideRequest) :
    s.keepsEvaluation (s.placeRequest src r) := by
  by_cases h : s.tide.slot src = .empty
  · rw [placeRequest_of_empty h]
    exact .trans (.of_evaluation_eq (by simp)) (keepsEvaluation_startEvaluation _)
  · rw [placeRequest_of_taken h]
    exact .refl s

theorem keepsEvaluation_withdraw (src : TideSource) : s.keepsEvaluation (s.withdraw src) := by
  cases h : s.tide.slot src with
  | empty => rw [withdraw, h]; exact .refl s
  | waiting r => rw [withdraw_of_waiting h]; exact .of_evaluation_eq (by simp)
  | evaluating r =>
    intro e he
    rw [withdraw_of_evaluating h]
    exact ⟨true, by simp [he]⟩

theorem keepsEvaluation_dropInFlight : s.keepsEvaluation s.dropInFlight := by
  rw [dropInFlight_eq]
  by_cases h : s.redoing.isSome
  · simpa [keepsEvaluation, h] using s.keepsEvaluation_withdraw .revision
  · exact .of_evaluation_eq (by simp [h])

theorem keepsEvaluation_queueItem (i : RevItem) : s.keepsEvaluation (s.queueItem i) := by
  obtain ⟨q, l, st, h⟩ := s.queueItem_frame i
  rw [h]
  exact .of_evaluation_eq rfl

theorem keepsEvaluation_queueAll (is : List RevItem) : s.keepsEvaluation (s.queueAll is) := by
  obtain ⟨q, l, st, h⟩ := s.queueAll_frame is
  rw [h]
  exact .of_evaluation_eq rfl

theorem keepsEvaluation_restartRedo (os : List Nat) : s.keepsEvaluation (s.restartRedo os) := by
  unfold restartRedo
  split
  · split
    · exact s.keepsEvaluation_dropInFlight.trans (keepsEvaluation_queueItem _ _)
    · exact .refl s
  · exact .refl s

theorem keepsEvaluation_markTideStale (os : List Nat) : s.keepsEvaluation (s.markTideStale os) := by
  refine .trans (.trans (.of_evaluation_eq ?_) (keepsEvaluation_queueAll _ _))
    (keepsEvaluation_restartRedo _ os)
  rfl

theorem keepsEvaluation_requestRedoStep : s.keepsEvaluation s.requestRedoStep := by
  unfold requestRedoStep
  split
  · split
    · split
      · exact s.keepsEvaluation_placeRequest _ _
      · exact .refl s
    · exact .refl s
  · exact .refl s

theorem keepsEvaluation_takeRedo (n : Nat) : s.keepsEvaluation (s.takeRedo n) := by
  refine .trans (.of_evaluation_eq ?_) (keepsEvaluation_requestRedoStep _)
  rfl

theorem keepsEvaluation_processStation (k : Nat) : s.keepsEvaluation (s.processStation k) := by
  obtain ⟨st, n, h⟩ := s.processStation_frame k
  rw [h]
  exact .of_evaluation_eq rfl

theorem keepsEvaluation_takeItems (fuel : Nat) : s.keepsEvaluation (takeItems fuel s) := by
  refine takeItems_keeps (P := s.keepsEvaluation) ?_ ?_ ?_ ?_ fuel s (.refl s)
  · intro u i rest _ _ _ h
    exact h.trans (keepsEvaluation_processStation { u with revQueue := rest } _)
  · intro u i rest _ _ _ h
    exact h.trans (keepsEvaluation_takeRedo { u with revQueue := rest } _)
  · intro u i rest _ _ _ h
    exact h.trans (.of_evaluation_eq rfl)
  · intro u i rest _ _ _ h
    exact h.trans (.of_evaluation_eq rfl)

theorem keepsEvaluation_revise (b : Bool) : s.keepsEvaluation (revise b s) := by
  obtain ⟨n, h⟩ := s.revise_cases b
  rw [h]
  exact (s.keepsEvaluation_takeItems _).trans (.of_evaluation_eq rfl)

/-! ## The entry written -/

section

variable {s} (i : Nat) (c : Constituent)

theorem mem_allClosed (hwf : Table.wf s.occupations) {n : Nat} :
    n ∈ s.allClosed ↔ ∃ o, Table.get s.occupations n = some o ∧ o.state = .closed := by
  simp [allClosed, Table.mem_keysWhere hwf]

theorem writeEntry_frame :
    ∃ q f t st n, s.writeEntry i c =
      { s with
        constituents := s.constituents.set i c, tableGen := s.tableGen + 1
        occupations := Table.modifyKeys s.occupations s.allClosed
          fun o => { o with tideStale := true }
        revQueue := q, inFlight := f, tide := t, stations := st, notices := n } := by
  generalize hw : ({ s with
    constituents := s.constituents.set i c, tableGen := s.tableGen + 1 } : State) = w
  obtain ⟨q, f, t, l, st, hm⟩ := w.markTideStale_frame s.allClosed
  have hl := w.markTideStale_loops s.allClosed
  obtain ⟨q', f', t', st', n, hr⟩ := revise_frame s.revisionBusy (w.markTideStale s.allClosed)
  rw [hm] at hl hr
  obtain rfl : l = w.loops := hl
  rw [writeEntry, hw, hm, hr]
  subst hw
  exact ⟨_, _, _, _, _, rfl⟩

theorem redoOwed_writeEntry {n : Nat} (h : n ∈ s.allClosed) : (s.writeEntry i c).redoOwed n :=
  redoOwed_revise _ (redoOwed_markTideStale h)

theorem keepsEvaluation_writeEntry : s.keepsEvaluation (s.writeEntry i c) := by
  refine .trans (.trans (.of_evaluation_eq ?_) (keepsEvaluation_markTideStale _ s.allClosed))
    (keepsEvaluation_revise _ s.revisionBusy)
  rfl

end

end State

/-! ## The request -/

/-- The operands brought into range (R108). -/
theorem constituentOf_eq (species : Species) (p : List Byte) :
    constituentOf species p =
      { enabled := p.getD 1 0 != 0, species := species, speed := fieldNat 3 6 p
        v0 := fieldNat 9 4 p, amplitude := max (-8191) (min 8191 (fieldInt 13 2 p))
        delta := min 32767 (fieldNat 15 2 p) } := by
  have hamplitude (v : Int) : clampInt (-8191) 8191 v = max (-8191) (min 8191 v) := by
    unfold clampInt
    split <;> (try split) <;> omega
  have hdelta (v : Nat) : clampNat 0 32767 v = min 32767 v := by
    unfold clampNat
    split <;> (try split) <;> omega
  rw [constituentOf, hamplitude, hdelta]

section

variable {p : List Byte} {s : State}

theorem exec_writeConstituent (hs : s.serves) (hp : p.length = 17) (tag : Byte) :
    exec (.writeConstituent tag p) s
      = .next ((writeConstituent p s.taken).1.respond tag (writeConstituent p s.taken).2) :=
  congrArg Host.Outcome.next (State.request_fixedForm hs hp (by decide) tag writeConstituent)

theorem writeConstituent_of_accepted {species : Species} (hi : (p.getD 0 0).toNat ≤ 11)
    (hsp : Species.ofCode (p.getD 2 0) = some species) :
    writeConstituent p s =
      (s.writeEntry (p.getD 0 0).toNat (constituentOf species p),
        done (constituentBytes (constituentOf species p) ++ beBytes 2 (s.tableGen + 1).toNat
          ++ beBytes 2 s.allClosed.length)) := by
  rw [writeConstituent, hsp]
  exact if_neg (Nat.not_lt.2 hi)

theorem writeConstituent_of_limit (h : 11 < (p.getD 0 0).toNat ∨ 2 < (p.getD 2 0).toNat) :
    writeConstituent p s = (s, refusal .badField) := by
  unfold writeConstituent
  dsimp only
  split
  · rfl
  · next hi => rw [Species.ofCode_eq_none.2 (h.resolve_left hi)]

end

/-- Settles O45: the entry is written and the CLOSED occupations marked in one step, and neither restarting
a redo nor taking items loses a redo or touches what an evaluation copied. -/
theorem constituentWriteMarksSurvey : Obligations.ConstituentWriteMarksSurvey := by
  refine ⟨fun tag p species s hs hp hi hsp hwf => ?_, fun tag p s hs hp hlim => ?_⟩
  · generalize hc : constituentOf species p = c
    obtain ⟨q, f, tide, sts, m, hframe⟩ := s.taken.writeEntry_frame (p.getD 0 0).toNat c
    have hmem {n : Nat} : n ∈ s.taken.allClosed ↔ _ := State.mem_allClosed (s := s.taken) hwf
    have hredo {n : Nat} (h : n ∈ s.taken.allClosed) := State.redoOwed_writeEntry (p.getD 0 0).toNat c h
    have hkeeps := s.taken.keepsEvaluation_writeEntry (p.getD 0 0).toNat c
    refine ⟨_, c, exec_writeConstituent hs hp tag, hc ▸ constituentOf_eq species p, ?_⟩
    rw [writeConstituent_of_accepted hi hsp, hc]
    dsimp only
    rw [hframe] at hredo hkeeps ⊢
    refine ⟨rfl, rfl, rfl, fun n o ho hcl => ?_, fun n o ho hcl => ?_, rfl, rfl, rfl, rfl, rfl, rfl,
      fun e he => ?_⟩
    · have hn := hmem.2 ⟨o, ho, hcl⟩
      refine ⟨?_, hredo hn⟩
      rw [State.respond_occupations, Table.get_modifyKeys, if_pos hn]
      exact congrArg _ ho
    · have hn : n ∉ s.taken.allClosed := fun hn => by
        obtain ⟨o', ho', hcl'⟩ := hmem.1 hn
        exact hcl (Option.some.inj (ho.symm.trans ho') ▸ hcl')
      rw [State.respond_occupations, Table.get_modifyKeys, if_neg hn]
      exact ho
    · obtain ⟨v, hv⟩ := hkeeps e he
      exact ⟨_, hv, rfl, rfl, rfl⟩
  · rw [State.refuses, exec_writeConstituent hs hp tag, writeConstituent_of_limit hlim]
    rfl

end Sys2Proof.Machine
end

section
/-! The Drift Unit's handover: an occupation just closed closes, joins or opens a loop (R115 to R118). -/

namespace Sys2Proof.Machine

/-! ## The OPEN loop of a head -/

theorem State.openLoop_eq_some {s : State} (hwf : Table.wf s.loops) {h : Head} {k : Nat} {l : Loop}
    (ho : s.openLoop h = some (k, l)) :
    Table.get s.loops k = some l ∧ l.head = h ∧ l.state = .opened := by
  have hp := List.find?_some ho
  simp only [Bool.and_eq_true, beq_iff_eq] at hp
  exact ⟨Table.get_of_mem hwf (List.mem_of_find?_eq_some ho), hp⟩

theorem State.not_open_of_openLoop_none {s : State} {h : Head} (ho : s.openLoop h = none) {k : Nat}
    {l : Loop} (hl : Table.get s.loops k = some l) (hh : l.head = h) : l.state ≠ .opened := by
  intro hs
  have := List.find?_eq_none.1 ho _ (Table.mem_of_get hl)
  simp [hh, hs] at this

/-! ## A loop opened -/

section

variable {s : State} {n k : Nat} {o : Occupation} {anchor : Bool}

theorem State.startLoop_of_full (h : Table.firstFree s.loops 32 = none) :
    s.startLoop n o anchor = s.setNotice .loopRefused := by
  rw [State.startLoop, show Table.firstFree s.loops Config.loopEntries = none from h]

theorem State.startLoop_of_free (h : Table.firstFree s.loops 32 = some k) :
    s.startLoop n o anchor
      = { s with loops := Table.put s.loops k (Loop.fresh n o) }.modifyOccupation n
          (Occupation.anchoring k anchor) := by
  rw [State.startLoop, show Table.firstFree s.loops Config.loopEntries = some k from h]

end

theorem Occupation.anchoring_true (k : Nat) :
    Occupation.anchoring k true
      = fun o => { o with anchorsLoop := some k, drift := some 0, value := some o.corrected } := by
  funext o
  simp [Occupation.anchoring, Occupation.revalue, Occupation.corrected]

/-! ## The OPEN loop closed -/

/-- The OPEN loop with its closer, its application queued, before the next loop is opened (R116). -/
def State.closing (s : State) (k n : Nat) : State :=
  ((s.modifyLoop k fun l => { l with closer := some n }).modifyOccupation n
    fun o => { o with driftLoop := some k }).queueItem ⟨.driftApply, k⟩

section

variable (s : State) (k n : Nat)

theorem State.closeLoop_eq (o : Occupation) : s.closeLoop k n o = (s.closing k n).startLoop n o false :=
  rfl

theorem State.loops_closing :
    (s.closing k n).loops
      = Table.modify s.loops k fun l => { l with closer := some n, state := .closing } := by
  simp only [State.closing, State.queueItem, State.modifyLoop, State.modifyOccupation, Table.modify,
    List.map_map]
  refine List.map_congr_left fun e _ => ?_
  by_cases he : e.1 = k <;> simp [he]

theorem State.occupations_closing :
    (s.closing k n).occupations
      = Table.modify s.occupations n fun o => { o with driftLoop := some k } :=
  rfl

theorem Table.firstFree_modify {α : Type} (t : Table α) (k limit : Nat) (f : α → α) :
    Table.firstFree (Table.modify t k f) limit = Table.firstFree t limit := by
  have hnone (j : Nat) : (Table.get (Table.modify t k f) j).isNone = (Table.get t j).isNone := by
    rw [Table.get_modify]
    split <;> simp
  have hfrom (m : Nat) : ∀ j,
      Table.firstFreeFrom (Table.modify t k f) m j = Table.firstFreeFrom t m j := by
    induction m with
    | zero => exact fun _ => rfl
    | succ m ih => intro j; simp only [Table.firstFreeFrom, hnone, ih]
  exact hfrom limit 0

theorem State.firstFree_closing :
    Table.firstFree (s.closing k n).loops 32 = Table.firstFree s.loops 32 := by
  rw [State.loops_closing, Table.firstFree_modify]

end

/-! ## The cases of a handover -/

section

variable {s : State} {n k : Nat} {o : Occupation} {l : Loop}
  (ho : Table.get s.occupations n = some o)

include ho

theorem State.handOver_of_base (hl : s.openLoop o.head = some (k, l)) (hb : l.base = o.station) :
    s.handOver n = (s.closing k n).startLoop n o false := by
  rw [State.handOver, ho]
  dsimp only
  rw [hl]
  exact if_pos hb

theorem State.handOver_of_other (hl : s.openLoop o.head = some (k, l)) (hb : l.base ≠ o.station) :
    s.handOver n = s.joinLoop k l n := by
  rw [State.handOver, ho]
  dsimp only
  rw [hl]
  exact if_neg hb

theorem State.handOver_of_none (hl : s.openLoop o.head = none) :
    s.handOver n = if s.roleOf o.station = some .base then s.startLoop n o true else s := by
  rw [State.handOver, ho]
  dsimp only
  rw [hl]

/-- The occupation closes the OPEN loop, which keeps all but its closer and state (R116). -/
theorem State.get_loops_handOver_of_base (hwf : Table.wf s.loops)
    (hl : s.openLoop o.head = some (k, l)) (hb : l.base = o.station) :
    Table.get (s.handOver n).loops k = some { l with closer := some n, state := .closing } := by
  obtain ⟨hget, -⟩ := State.openLoop_eq_some hwf hl
  have hclosed : Table.get (s.closing k n).loops k
      = some { l with closer := some n, state := .closing } := by
    rw [State.loops_closing]
    exact Table.get_modify_self hget
  rw [State.handOver_of_base ho hl hb]
  cases hf : Table.firstFree s.loops 32 with
  | none =>
    rw [← s.firstFree_closing k n] at hf
    rw [State.startLoop_of_full hf]
    exact hclosed
  | some k' =>
    obtain ⟨-, hfree, -⟩ := Table.firstFree_eq_some.1 hf
    rw [← s.firstFree_closing k n] at hf
    rw [State.startLoop_of_free hf, State.modifyOccupation_loops, Table.get_put, if_neg, hclosed]
    rintro rfl
    rw [hget] at hfree
    cases hfree

theorem State.get_occupations_closing (k : Nat) :
    Table.get (s.closing k n).occupations n = some { o with driftLoop := some k } := by
  rw [State.occupations_closing]
  exact Table.get_modify_self ho

theorem State.driftLoop_handOver_of_base (hl : s.openLoop o.head = some (k, l))
    (hb : l.base = o.station) :
    (Table.get (s.handOver n).occupations n).bind Occupation.driftLoop = some k := by
  have hclosed := State.get_occupations_closing ho k
  rw [State.handOver_of_base ho hl hb]
  cases hf : Table.firstFree (s.closing k n).loops 32 with
  | none => rw [State.startLoop_of_full hf, State.setNotice_occupations, hclosed]; rfl
  | some k' =>
    rw [State.startLoop_of_free hf, State.modifyOccupation_occupations, Table.get_modify_self hclosed]
    rfl

/-- The next loop is opened in the lowest free entry (R116, R118). -/
theorem State.handOver_of_base_of_free (hl : s.openLoop o.head = some (k, l))
    (hb : l.base = o.station) {k' : Nat} (hf : Table.firstFree s.loops 32 = some k') :
    Table.get (s.handOver n).loops k' = some (Loop.fresh n o)
      ∧ (Table.get (s.handOver n).occupations n).bind Occupation.anchorsLoop = some k' := by
  have hclosed := State.get_occupations_closing ho k
  rw [← s.firstFree_closing k n] at hf
  rw [State.handOver_of_base ho hl hb, State.startLoop_of_free hf]
  constructor
  · rw [State.modifyOccupation_loops, Table.get_put, if_pos rfl]
  · rw [State.modifyOccupation_occupations, Table.get_modify_self hclosed]
    rfl

end

/-- Settles O30: the four cases of R115, each with room or without. -/
theorem driftUnitTakesClosedOccupation : Obligations.DriftUnitTakesClosedOccupation := by
  intro n o s hwf ho
  refine ⟨fun k l hl hb => ⟨State.get_loops_handOver_of_base ho hwf hl hb, ?_,
      State.driftLoop_handOver_of_base ho hl hb, fun k' hf => State.handOver_of_base_of_free ho hl hb hf,
      fun hf => ?_⟩, fun k l hl hb hlen => ?_, fun k l hl hb hlen => ?_, fun k hl hr hf => ?_,
    fun hl hr hf => ?_, fun hl hr => ?_⟩
  · obtain ⟨oc, lo, nt, hstart⟩ := (s.closing k n).startLoop_frame n o false
    rw [State.handOver_of_base ho hl hb, hstart]
    exact State.mem_revQueue_queueItem.2 (.inl rfl)
  · rw [← s.firstFree_closing k n] at hf
    rw [State.handOver_of_base ho hl hb, State.startLoop_of_full hf]
    exact State.hasNotice_setNotice_self _ _
  · rw [State.handOver_of_other ho hl hb]
    exact if_pos hlen
  · rw [State.handOver_of_other ho hl hb]
    exact if_neg (Nat.not_lt.2 hlen)
  · rw [State.handOver_of_none ho hl, if_pos hr, State.startLoop_of_free hf, Occupation.anchoring_true]
    rfl
  · rw [State.handOver_of_none ho hl, if_pos hr, State.startLoop_of_full hf]
    rfl
  · rw [State.handOver_of_none ho hl, if_neg hr]

end Sys2Proof.Machine
end

section
/-! ABANDON_LOOP and RELEASE_LOOP: what becomes of the loop's application, its terms and its entry, and the
refusals (R125 to R128). -/

namespace Sys2Proof.Machine

/-! ## Requests that name a loop -/

section

variable {s : State} (hs : s.serves) (tag : Byte) {k : Nat} (hk : k < 256)

include hs hk

theorem State.request_loop (serve : Nat → State → State × Answer) :
    s.request tag (beBytes 1 k) (fixedForm 1 fun p s => serve (fieldNat 0 1 p) s)
      = (serve k s.taken).1.respond tag (serve k s.taken).2 := by
  have hfield : fieldNat 0 1 (beBytes 1 k) = k := by
    simpa using fieldNat_beBytes_append (n := 1) hk []
  rw [State.request_fixedForm hs (by simp) (by decide), hfield]

theorem State.request_loop_of_refusal {serve : Nat → State → State × Answer} {c : ResponseCode}
    (hr : serve k s.taken = (s.taken, refusal c)) :
    s.request tag (beBytes 1 k) (fixedForm 1 fun p s => serve (fieldNat 0 1 p) s)
      = s.answeredAs s.statusByte tag ⟨c, []⟩ := by
  rw [State.request_loop hs tag hk, hr]
  rfl

end

/-! ## The loop's application dropped -/

/-- What is in flight is not the application of loop `k`, or is dropped with it (R126 part 4). -/
theorem State.dropApply_eq (s : State) (k : Nat) :
    s.dropApply k = { s with
      revQueue := s.revQueue.filter fun i => !(i == ⟨.driftApply, k⟩)
      inFlight := if s.applying = some k then none else s.inFlight } := by
  unfold State.dropApply
  dsimp only
  split
  · next h =>
    rw [State.dropInFlight_eq]
    cases hf : s.inFlight with
    | none => simp [State.applying, hf] at h
    | some f => cases f <;> simp_all [State.applying, State.redoing, State.removeItems]
  · rfl

theorem State.inFlight_queueAll (is : List RevItem) (s : State) :
    (s.queueAll is).inFlight = s.inFlight := by
  obtain ⟨q, l, st, h⟩ := State.queueAll_frame is s
  rw [h]

theorem State.loops_revise (b : Bool) (s : State) : (State.revise b s).loops = s.loops := by
  obtain ⟨q, f, t, st, n, h⟩ := State.revise_frame b s
  rw [h]

section

variable {s : State} {k : Nat} {l : Loop} (hl : Table.get s.loops k = some l)

include hl

theorem State.inFlight_abandon :
    (s.abandon k).inFlight = if s.applying = some k then none else s.inFlight := by
  obtain ⟨oc, hw⟩ := s.withdrawTerms_frame l
  rw [State.abandon, hl]
  dsimp only
  rw [State.queueStationsOf, State.inFlight_queueAll, State.dropApply_eq, hw]
  rfl

/-- An abandonment takes the loop's application alone out of the queue, and puts station values in it. -/
theorem State.mem_revQueue_abandon_iff {i : RevItem} (hi : i.kind ≠ .stationValue) :
    i ∈ (s.abandon k).revQueue ↔ i ∈ s.revQueue ∧ i ≠ ⟨.driftApply, k⟩ := by
  obtain ⟨oc, hw⟩ := s.withdrawTerms_frame l
  rw [State.abandon, hl]
  dsimp only
  rw [State.queueStationsOf, State.mem_revQueue_queueAll, State.dropApply_eq, hw]
  simp only [List.mem_filter, Bool.not_eq_true', beq_eq_false_iff_ne]
  refine or_iff_right fun hmem => hi ?_
  obtain ⟨x, -, rfl⟩ := List.mem_map.1 hmem
  rfl

theorem State.not_applyOwed_abandon : ¬(s.abandon k).applyOwed k := by
  rintro (hwaits | hflies)
  · exact ((State.mem_revQueue_abandon_iff hl (i := ⟨.driftApply, k⟩) nofun).1 hwaits).2 rfl
  · rw [State.applying, State.inFlight_abandon hl] at hflies
    by_cases ha : s.applying = some k
    · simp [ha] at hflies
    · rw [if_neg ha] at hflies
      exact ha hflies

end

/-- Taking items makes no application (R136). -/
theorem takeItems_not_applyOwed {k : Nat} (fuel : Nat) (s : State) :
    ¬s.applyOwed k → ¬(takeItems fuel s).applyOwed k := by
  refine takeItems_keeps (P := fun u => ¬u.applyOwed k) ?_ ?_ ?_ ?_ fuel s
  · intro s i rest hf hq hk h hafter
    obtain ⟨st, m, hp⟩ := State.processStation_frame { s with revQueue := rest } i.target
    rw [hp] at hafter
    exact h (hafter.imp_left fun hm => hq ▸ List.mem_cons_of_mem _ hm)
  · intro s i rest hf hq hk h hafter
    obtain ⟨t, hr⟩ := State.requestRedoStep_frame { s with
      revQueue := rest
      inFlight := some (.tideRedo i.target []
        ((((Table.get s.occupations i.target).map Occupation.steps).getD []).map TideStep.index)) }
    rw [State.takeRedo, hr] at hafter
    exact h (.inl (hq ▸ List.mem_cons_of_mem _ (hafter.resolve_right nofun)))
  · intro s i rest hf hq hk h hafter
    refine h (hafter.imp_left fun hm => ?_)
    rw [hq]
    simpa [or_comm] using hm
  · intro s i rest hf hq hk h hafter
    refine h (.inl (hq ▸ ?_))
    rcases hafter with hm | hflies
    · exact List.mem_cons_of_mem _ hm
    · cases hflies
      exact hk ▸ List.mem_cons_self

theorem State.not_applyOwed_revise {s : State} (b : Bool) {k : Nat} (h : ¬s.applyOwed k) :
    ¬(State.revise b s).applyOwed k := by
  obtain ⟨m, hr⟩ := s.revise_cases b
  rw [hr]
  exact takeItems_not_applyOwed _ s h

/-! ## ABANDON_LOOP -/

theorem State.abandonLoses_taken (s : State) (k : Nat) : s.taken.abandonLoses k = s.abandonLoses k := by
  simp only [State.abandonLoses, lostDrift, State.driftOf, State.get_withdrawTerms]
  rfl

theorem abandonLoop_of_get {s : State} {k : Nat} {l : Loop} (hk : k < 32)
    (hl : Table.get s.loops k = some l) :
    abandonLoop k s = (State.revise s.revisionBusy (s.abandon k),
      done (beBytes 1 l.state.code ++ beBytes 2 (s.abandonLoses k))) := by
  rw [abandonLoop, State.checkLoop_eq_ok.2 ⟨hk, hl⟩]

/-- Settles O34: the abandonment record by record, what the Revision Engine's going on leaves of it, and
the refusals. -/
theorem abandonmentWithdrawsTerms : Obligations.AbandonmentWithdrawsTerms := by
  refine ⟨fun tag k l s hs hk hl => ?_, fun tag k s hs hk => ?_⟩
  · have hget (m : Nat) : Table.get (State.revise s.taken.revisionBusy (s.taken.abandon k)).occupations m
        = (Table.get s.occupations m).map (l.withdraw m) := by
      rw [State.occupations_revise]
      exact State.get_occupations_abandon (s := s.taken) hl m
    have hloops (j : Nat) : Table.get (State.revise s.taken.revisionBusy (s.taken.abandon k)).loops j
        = if j = k then none else Table.get s.loops j := by
      rw [State.loops_revise]
      exact s.taken.get_loops_abandon k j
    refine ⟨(State.revise s.taken.revisionBusy (s.taken.abandon k)).respond tag
      (done (beBytes 1 l.state.code ++ beBytes 2 (s.abandonLoses k))), ?_, rfl, ?_, fun j hj => ?_,
      State.not_applyOwed_revise s.taken.revisionBusy (State.not_applyOwed_abandon (s := s.taken) hl),
      fun m o hm hc hop ho => ?_, fun m o hc hm hop ho => ?_, fun o hm hc ho => ?_, fun m hm => ?_,
      fun m o o' ho ho' hne => ?_, ?_⟩
    · refine congrArg Host.Outcome.next
        ((State.request_loop hs tag (Nat.lt_trans hk (by decide)) abandonLoop).trans ?_)
      rw [abandonLoop_of_get (s := s.taken) hk hl, s.abandonLoses_taken]
    · exact (hloops k).trans (if_pos rfl)
    · exact (hloops j).trans (if_neg hj)
    · rw [State.respond_occupations, hget, ho, Option.map_some,
        Loop.withdraw_of_member hm (Ne.symm hc) (Ne.symm hop), Occupation.unmembered_eq]
    · rw [State.respond_occupations, hget, ho, Option.map_some,
        Loop.withdraw_of_closer hc hm (Ne.symm hop), Occupation.unclosed_eq]
    · rw [State.respond_occupations, hget, ho, Option.map_some, Loop.withdraw_of_opener rfl hm hc,
        Occupation.unanchored_eq]
    · rw [State.respond_occupations, hget]
      cases Table.get s.occupations m with
      | none => rfl
      | some o => rw [Option.map_some, Loop.withdraw_of_not_mem hm]
    · rw [State.respond_occupations, State.occupations_revise] at ho'
      exact State.valueFollows_revise s.taken.revisionBusy
        (.inl (State.revQueue_abandon_of_drift (s := s.taken) ho ho' hne))
    · obtain ⟨oc, lo, q, f, t, st, ha⟩ := s.taken.abandon_frame k
      obtain ⟨q', f', t', st', n, hr⟩ := State.revise_frame s.taken.revisionBusy (s.taken.abandon k)
      rw [hr, ha]
      exact ⟨rfl, rfl, rfl⟩
  · have hrefuses {c : ResponseCode} (hr : abandonLoop k s.taken = (s.taken, refusal c)) :
        s.refuses (.abandonLoop tag (beBytes 1 k)) tag c :=
      congrArg Host.Outcome.next (State.request_loop_of_refusal hs tag hk hr)
    refine ⟨fun hlim => hrefuses ?_, fun hlt hg => hrefuses ?_⟩
    · rw [abandonLoop, State.checkLoop_of_limit hlim]
    · rw [abandonLoop, State.checkLoop_of_free (s := s.taken) hlt hg]

/-! ## RELEASE_LOOP -/

/-- What releasing the loop makes of the record of occupation `m`: as member or closer, then as opener
(R127 parts 1 and 2). -/
def Loop.freeze (l : Loop) (m : Nat) (o : Occupation) : Occupation :=
  let asTerm := if m ∈ l.members ∨ l.closer = some m then o.frozen else o
  if m = l.opener then asTerm.releasedOpener else asTerm

theorem State.get_occupations_release (s : State) (k : Nat) (l : Loop) (m : Nat) :
    Table.get (s.release k l).occupations m = (Table.get s.occupations m).map (l.freeze m) := by
  have hkeys : m ∈ l.members ++ l.closer.toList ↔ m ∈ l.members ∨ l.closer = some m := by
    simp
  simp only [State.release, State.modifyOccupation, Table.get_modify, Table.get_modifyKeys, ite_map_self,
    hkeys]
  cases Table.get s.occupations m <;> rfl

/-- A release changes neither D nor V (R127). -/
theorem Loop.terms_freeze (l : Loop) (m : Nat) (o : Occupation) :
    (l.freeze m o).drift = o.drift ∧ (l.freeze m o).value = o.value := by
  unfold Loop.freeze
  dsimp only
  split <;> split <;> exact ⟨rfl, rfl⟩

theorem Loop.freeze_of_not_mem {l : Loop} {m : Nat} (h : m ∉ l.occupants) (o : Occupation) :
    l.freeze m o = o := by
  rw [Loop.mem_occupants, not_or, not_or] at h
  obtain ⟨ho, hc, hm⟩ := h
  rw [Loop.freeze, if_neg (not_or.2 ⟨hm, hc⟩), if_neg ho]

theorem Loop.applied_eq_true {l : Loop} : l.applied = true ↔ l.state = .closed ∨ l.state = .suspect := by
  simp [Loop.applied]

theorem releaseLoop_of_applied {s : State} {k : Nat} {l : Loop} (hk : k < 32)
    (hl : Table.get s.loops k = some l) (ha : l.state = .closed ∨ l.state = .suspect) :
    releaseLoop k s = (s.release k l, done (beBytes 1 l.state.code
      ++ beSignedBytes 4 (l.rate.getD 0) ++ beBytes 2 (s.releaseFreezes l))) := by
  rw [releaseLoop, State.checkLoop_eq_ok.2 ⟨hk, hl⟩]
  exact if_pos (Loop.applied_eq_true.2 ha)

theorem releaseLoop_of_not_applied {s : State} {k : Nat} {l : Loop} (hk : k < 32)
    (hl : Table.get s.loops k = some l) (ha : l.state = .opened ∨ l.state = .closing) :
    releaseLoop k s = (s, refusal .wrongState) := by
  rw [releaseLoop, State.checkLoop_eq_ok.2 ⟨hk, hl⟩]
  refine if_neg fun h => ?_
  rcases ha with ha | ha <;> simp [Loop.applied, ha] at h

/-- Settles O35: the release record by record, and the refusals. -/
theorem releaseFreezesTerms : Obligations.ReleaseFreezesTerms := by
  refine ⟨fun tag k l s hs hk hl ha => ?_, fun tag k s hs hk => ?_⟩
  · have hget := s.get_occupations_release k l
    refine ⟨s.release k l, ?_, rfl, fun m => ?_, fun m o hm hop ho => ?_, fun o hm hc ho => ?_,
      fun m hm => ?_⟩
    · refine congrArg Host.Outcome.next
        ((State.request_loop hs tag (Nat.lt_trans hk (by decide)) releaseLoop).trans ?_)
      rw [releaseLoop_of_applied (s := s.taken) hk hl ha]
      rfl
    · rw [hget]
      cases Table.get s.occupations m with
      | none => rfl
      | some o =>
        obtain ⟨hd, hv⟩ := l.terms_freeze m o
        simp only [Option.map_some, hd, hv]
    · rw [hget, ho, Option.map_some, Loop.freeze, if_pos hm, if_neg hop, Occupation.frozen]
    · rw [hget, ho, Option.map_some, Loop.freeze, if_neg (not_or.2 ⟨hm, hc⟩), if_pos rfl,
        Occupation.releasedOpener, Occupation.anchorZero]
    · rw [hget]
      cases Table.get s.occupations m with
      | none => rfl
      | some o => rw [Option.map_some, Loop.freeze_of_not_mem hm]
  · have hrefuses {c : ResponseCode} (hr : releaseLoop k s.taken = (s.taken, refusal c)) :
        s.refuses (.releaseLoop tag (beBytes 1 k)) tag c :=
      congrArg Host.Outcome.next (State.request_loop_of_refusal hs tag hk hr)
    refine ⟨⟨fun hlim => hrefuses ?_, fun hlt hg => hrefuses ?_⟩, fun l hlt hl ha => hrefuses ?_⟩
    · rw [releaseLoop, State.checkLoop_of_limit hlim]
    · rw [releaseLoop, State.checkLoop_of_free (s := s.taken) hlt hg]
    · exact releaseLoop_of_not_applied (s := s.taken) hlt hl ha

end Sys2Proof.Machine
end

section
/-! A completed drift application: the limited rate, the terms and values written, the stations' values formed
anew and the notice of the result (R121 to R124). -/

namespace Sys2Proof.Machine

/-! ## The limited rate -/

theorem natAbs_clampInt_le (limit : Nat) (r : Int) : (clampInt (-limit) limit r).natAbs ≤ limit := by
  unfold clampInt
  split
  · omega
  · split <;> omega

/-- The three ways the limit judges a rate (R122). -/
theorem limitRate_cases (limit ta tb : Nat) (r : Int) :
    (limit < r.natAbs ∧ limitRate limit ta tb r = (clampInt (-limit) limit r, .suspect))
      ∨ (r.natAbs ≤ limit ∧ ta + 30 ≤ tb ∧ limitRate limit ta tb r = (r, .closed))
      ∨ (r.natAbs ≤ limit ∧ ¬ta + 30 ≤ tb ∧ limitRate limit ta tb r = (r, .suspect)) := by
  unfold limitRate Config.shortestDriftInterval
  split
  · next h => exact .inl ⟨h, rfl⟩
  · next h =>
    split
    · next ht => exact .inr (.inl ⟨Nat.not_lt.1 h, ht, rfl⟩)
    · next ht => exact .inr (.inr ⟨Nat.not_lt.1 h, ht, rfl⟩)

/-- The stored rate stays within the limit, and is the rate itself where that is within it; the loop is
CLOSED exactly where it is and the interval is long enough (R122). -/
theorem limitRate_spec (limit ta tb : Nat) (r : Int) :
    (limitRate limit ta tb r).1.natAbs ≤ limit
      ∧ ((limitRate limit ta tb r).2 = .closed ↔ r.natAbs ≤ limit ∧ ta + 30 ≤ tb)
      ∧ ((limitRate limit ta tb r).2 = .suspect ↔ ¬(r.natAbs ≤ limit ∧ ta + 30 ≤ tb))
      ∧ (r.natAbs ≤ limit → (limitRate limit ta tb r).1 = r) := by
  obtain ⟨hr, h⟩ | ⟨hr, ht, h⟩ | ⟨hr, ht, h⟩ := limitRate_cases limit ta tb r
  · simp [h, natAbs_clampInt_le, Nat.not_le.2 hr]
  · simp [h, hr, ht]
  · simp [h, hr, ht]

/-! ## The application -/

theorem Occupation.drifted_eq (r : Int) (ta : Nat) (o : Occupation) :
    o.drifted r ta = { o with
      drift := some (roundDiv (r * ((o.mid : Int) - ta)) 65536), driftFrozen := false
      value := some (o.corrected - roundDiv (r * ((o.mid : Int) - ta)) 65536) } :=
  rfl

/-- The rate as an application stores it and the state it gives the loop (R121, R122). -/
def State.appliedRate (s : State) (oa ob : Occupation) : Int × LoopState :=
  limitRate s.constants.driftLimit oa.mid ob.mid (driftRate oa.corrected ob.corrected oa.mid ob.mid)

section

variable (s : State) (k : Nat) (l : Loop) (c : Nat) (oa ob : Occupation)

theorem State.loops_applyLoop :
    (s.applyLoop k l c oa ob).loops = Table.modify s.loops k fun l =>
      { l with rate := some (s.appliedRate oa ob).1, state := (s.appliedRate oa ob).2 } := by
  rw [State.applyLoop, State.setNotice_loops, State.loops_queueStationsOf]
  rfl

theorem State.occupations_applyLoop :
    (s.applyLoop k l c oa ob).occupations
      = Table.modifyKeys s.occupations (l.members ++ [c])
          (Occupation.drifted (s.appliedRate oa ob).1 oa.mid) := by
  rw [State.applyLoop, State.setNotice_occupations, State.occupations_queueStationsOf]
  rfl

/-- The value of each occupation's station is queued (R124). -/
theorem State.mem_revQueue_applyLoop {m : Nat} {o : Occupation} (hm : m ∈ l.members ∨ m = c)
    (ho : Table.get s.occupations m = some o) :
    ⟨.stationValue, o.station⟩ ∈ (s.applyLoop k l c oa ob).revQueue := by
  rw [State.applyLoop, State.setNotice_revQueue, State.queueStationsOf, State.mem_revQueue_queueAll]
  refine .inl (List.mem_map.2 ⟨o.station, List.mem_flatMap.2 ⟨m, by simpa [or_comm] using hm, ?_⟩, rfl⟩)
  have hkey : m ∈ l.members ++ [c] := by simpa using hm
  simp only [State.stationOf, State.modifyLoop_occupations, Table.get_modifyKeys, if_pos hkey, ho,
    Option.map_some, Option.toList_some, List.mem_singleton]
  rfl

theorem State.hasNotice_applyLoop :
    (s.applyLoop k l c oa ob).hasNotice
      (if (s.appliedRate oa ob).2 = .closed then .loopClosed else .loopSuspect) :=
  State.hasNotice_setNotice_self _ _

end

section

variable {s : State} {k c : Nat} {l : Loop} {oa ob : Occupation}

theorem State.completeApply_of_get (hl : Table.get s.loops k = some l) (hc : l.closer = some c)
    (ha : Table.get s.occupations l.opener = some oa) (hb : Table.get s.occupations c = some ob) :
    s.completeApply k = { s with inFlight := none }.applyLoop k l c oa ob := by
  rw [State.completeApply, hl]
  dsimp only
  rw [hc]
  dsimp only
  rw [ha, hb]

theorem exec_driftApplyComplete {walked : Nat} (hrun : s.running = true)
    (hf : s.inFlight = some (.driftApply k walked)) :
    exec .driftApplyComplete s = .next (State.revise true (s.completeApply k)) := by
  rw [exec, execDriftApplyComplete, State.whenRunning_of_running hrun, State.endApply, State.applying, hf]

end

/-- Settles O36: the application store by store, what the Revision Engine's going on leaves of it, and the
judgement of the limit. -/
theorem driftApplicationWritesTerms : Obligations.DriftApplicationWritesTerms := by
  refine ⟨fun k walked c l oa ob s hrun hf hl hc ha hb => ?_, fun limit ta tb r =>
    limitRate_spec limit ta tb r⟩
  generalize hu : ({ s with inFlight := none } : State).applyLoop k l c oa ob = u
  have hget (m : Nat) : Table.get (State.revise true u).occupations m
      = if m ∈ l.members ++ [c] then (Table.get s.occupations m).map
          (Occupation.drifted (s.appliedRate oa ob).1 oa.mid) else Table.get s.occupations m := by
    rw [State.occupations_revise, ← hu, State.occupations_applyLoop]
    exact Table.get_modifyKeys _ _ _ _
  have hloops (j : Nat) : Table.get (State.revise true u).loops j
      = if j = k then (Table.get s.loops j).map fun l =>
          { l with rate := some (s.appliedRate oa ob).1, state := (s.appliedRate oa ob).2 }
        else Table.get s.loops j := by
    rw [State.loops_revise, ← hu, State.loops_applyLoop]
    exact Table.get_modify _ _ _ _
  have hnotice : (State.revise true u).hasNotice
      (if (s.appliedRate oa ob).2 = .closed then .loopClosed else .loopSuspect) := by
    rw [← hu]
    exact State.hasNotice_revise true
      (State.hasNotice_applyLoop { s with inFlight := none } k l c oa ob)
  refine ⟨State.revise true u, (s.appliedRate oa ob).1, (s.appliedRate oa ob).2, ?_, rfl, ?_,
    fun m o hm ho => ?_, fun m o hm ho => State.valueFollows_revise true (.inl ?_), fun m hm hmc => ?_,
    fun j hj => ?_, fun hx => ?_, fun hx => ?_, ?_⟩
  · rw [exec_driftApplyComplete hrun hf, State.completeApply_of_get hl hc ha hb, hu]
  · rw [hloops, if_pos rfl, hl, Option.map_some]
  · rw [hget, if_pos (by simpa using hm), ho, Option.map_some, Occupation.drifted_eq]
  · rw [← hu]
    exact State.mem_revQueue_applyLoop { s with inFlight := none } k l c oa ob hm ho
  · rw [hget, if_neg (by simp [hm, hmc])]
  · rw [hloops, if_neg hj]
  · rwa [if_pos hx] at hnotice
  · rwa [if_neg (by simp [hx])] at hnotice
  · obtain ⟨q, f, t, st, n, hr⟩ := State.revise_frame true u
    obtain ⟨oc, lo, q', st', n', hcomplete⟩ := s.completeApply_frame k
    rw [State.completeApply_of_get hl hc ha hb, hu] at hcomplete
    rw [hr, hcomplete]
    exact ⟨rfl, rfl, rfl, rfl⟩

end Sys2Proof.Machine
end

section
/-! The revision work that the marks call for, and the work that waits or is in flight: what each operation of
the units does to both (R113, R133 to R136, R148). -/

namespace Sys2Proof.Machine

/-! ## Entries of a changed table -/

namespace Table

variable {α β : Type} {t : Table α} {k : Nat} {e : Nat × α}

theorem mem_project {g : α → β} {x : Nat} {b : β} :
    (x, b) ∈ project g t ↔ ∃ a, (x, a) ∈ t ∧ g a = b := by
  simp [project]

theorem not_mem_of_get_none (h : get t k = none) (a : α) : (k, a) ∉ t := by
  induction t with
  | nil => exact nofun
  | cons x t ih =>
    rw [get_cons] at h
    split at h
    · cases h
    · next hk =>
      refine fun hm => (List.mem_cons.1 hm).elim (fun hx => hk ?_) (ih h)
      rw [← hx]

theorem mem_mapIf {f : α → α} {p : Nat → Prop} [DecidablePred p]
    (h : e ∈ t.map fun x => if p x.1 then (x.1, f x.2) else x) :
    (¬p e.1 ∧ e ∈ t) ∨ (p e.1 ∧ ∃ a, (e.1, a) ∈ t ∧ e.2 = f a) := by
  obtain ⟨x, hx, rfl⟩ := List.mem_map.1 h
  by_cases hp : p x.1
  · rw [if_pos hp]
    exact .inr ⟨hp, x.2, hx, rfl⟩
  · rw [if_neg hp]
    exact .inl ⟨hp, hx⟩

theorem mem_modify {f : α → α} (h : e ∈ modify t k f) :
    (e.1 ≠ k ∧ e ∈ t) ∨ (e.1 = k ∧ ∃ a, (k, a) ∈ t ∧ e.2 = f a) := by
  obtain h | ⟨hk, h⟩ := mem_mapIf (p := (· = k)) h
  · exact .inl h
  · exact .inr ⟨hk, hk ▸ h⟩

theorem mem_modifyKeys {f : α → α} {ks : List Nat} (h : e ∈ modifyKeys t ks f) :
    e ∈ t ∨ (e.1 ∈ ks ∧ ∃ a, (e.1, a) ∈ t ∧ e.2 = f a) :=
  (mem_mapIf (p := (· ∈ ks)) h).imp_left And.right

theorem mem_put {v : α} (h : e ∈ put t k v) : e = (k, v) ∨ e ∈ t := by
  induction t with
  | nil => exact .inl (List.mem_singleton.1 h)
  | cons x t ih =>
    unfold put at h
    split at h
    · exact List.mem_cons.1 h
    · split at h
      · exact (List.mem_cons.1 h).imp_right (List.mem_cons_of_mem _)
      · obtain rfl | h := List.mem_cons.1 h
        · exact .inr List.mem_cons_self
        · exact (ih h).imp_right (List.mem_cons_of_mem _)

theorem mem_del : e ∈ del t k ↔ e ∈ t ∧ e.1 ≠ k := by
  simp [del]

end Table

/-! ## Work called for, work owed -/

/-- A CLOSED tide-stale record (R133). -/
def Occupation.awaitsRedo (o : Occupation) : Bool := o.state == .closed && o.tideStale

/-- A mark calls for the item: a CLOSED tide-stale occupation for its TIDE_REDO, a CLOSING loop for its
DRIFT_APPLY, a value-stale station for its STATION_VALUE (R113, R133, R148). -/
def State.calls (s : State) (i : RevItem) : Prop :=
  match i.kind with
  | .tideRedo => (i.target, true) ∈ Table.project Occupation.awaitsRedo s.occupations
  | .driftApply => (Table.get s.loops i.target).map Loop.state = some .closing
  | .stationValue => (i.target, true) ∈ Table.project Station.valueStale s.stations

/-- The item waits or is in flight. -/
def State.owes (s : State) (i : RevItem) : Prop :=
  i ∈ s.revQueue ∨ s.inFlight.map InFlight.item = some i

/-- Every item a mark calls for waits or is in flight. -/
def State.marksOwed (s : State) : Prop := ∀ i, s.calls i → s.owes i

theorem State.owes_redo {s : State} {n : Nat} : s.owes ⟨.tideRedo, n⟩ ↔ s.redoOwed n := by
  refine or_congr_right ?_
  unfold State.redoing
  cases s.inFlight with
  | none => simp
  | some f => cases f <;> simp [InFlight.item]

theorem State.owes_apply {s : State} {k : Nat} : s.owes ⟨.driftApply, k⟩ ↔ s.applyOwed k := by
  refine or_congr_right ?_
  unfold State.applying
  cases s.inFlight with
  | none => simp
  | some f => cases f <;> simp [InFlight.item]

/-- A STATION_VALUE is never in flight (R144). -/
theorem State.owes_value {s : State} {x : Nat} :
    s.owes ⟨.stationValue, x⟩ ↔ ⟨.stationValue, x⟩ ∈ s.revQueue := by
  refine or_iff_left ?_
  cases s.inFlight with
  | none => simp
  | some f => cases f <;> simp [InFlight.item]

/-- The invariant of R113, R133 and R148 says that the marks' items are owed. -/
theorem State.marksHaveItems_iff {s : State} :
    s.marksHaveItems ↔ (s.vdd = true → s.backupValid = true → s.marksOwed) := by
  refine imp_congr_right fun _ => imp_congr_right fun _ => ⟨fun ⟨hredo, happly, hvalue⟩ i hi => ?_,
    fun h => ⟨fun e he hc hs => ?_, fun k l hl hc => ?_, fun e he hs => ?_⟩⟩
  · obtain ⟨kind, x⟩ := i
    cases kind
    case tideRedo =>
      obtain ⟨o, ho, haw⟩ := Table.mem_project.1 hi
      simp only [Occupation.awaitsRedo, Bool.and_eq_true, beq_iff_eq] at haw
      exact State.owes_redo.2 (hredo _ ho haw.1 haw.2)
    case driftApply =>
      obtain ⟨l, hl, hc⟩ := Option.map_eq_some_iff.1 hi
      exact State.owes_apply.2 (happly x l hl hc)
    case stationValue =>
      obtain ⟨st, hst, hs⟩ := Table.mem_project.1 hi
      exact State.owes_value.2 (hvalue _ hst hs)
  · exact State.owes_redo.1 (h ⟨.tideRedo, e.1⟩
      (Table.mem_project.2 ⟨e.2, he, by simp [Occupation.awaitsRedo, hc, hs]⟩))
  · exact State.owes_apply.1 (h ⟨.driftApply, k⟩ (by simp [State.calls, hl, hc]))
  · exact State.owes_value.1 (h ⟨.stationValue, e.1⟩ (Table.mem_project.2 ⟨e.2, he, hs⟩))

section

variable {s t : State}

/-- The marks' items stay owed where each new mark has its item, and no item is lost that a mark still calls
for. -/
theorem State.marksOwed.of_calls (h : s.marksOwed) (hc : ∀ i, t.calls i → s.calls i ∨ t.owes i)
    (ho : ∀ i, t.calls i → s.owes i → t.owes i) : t.marksOwed :=
  fun i hi => (hc i hi).elim (fun hs => ho i hi (h i hs)) id

/-- What calls for items is the standing of occupations, loops and stations. -/
theorem State.calls_congr
    (ho : Table.project Occupation.awaitsRedo t.occupations
      = Table.project Occupation.awaitsRedo s.occupations)
    (hl : ∀ k, (Table.get t.loops k).map Loop.state = (Table.get s.loops k).map Loop.state)
    (hst : Table.project Station.valueStale t.stations = Table.project Station.valueStale s.stations)
    (i : RevItem) : t.calls i ↔ s.calls i := by
  obtain ⟨kind, x⟩ := i
  cases kind <;> simp only [State.calls, ho, hl, hst]

end

/-! ## Items queued -/

section

variable {s : State} {i j : RevItem}

theorem State.inFlight_queueItem (s : State) (i : RevItem) : (s.queueItem i).inFlight = s.inFlight := by
  obtain ⟨q, l, st, h⟩ := s.queueItem_frame i
  rw [h]

theorem State.owes_queueItem : (s.queueItem i).owes j ↔ j = i ∨ s.owes j := by
  rw [State.owes, State.mem_revQueue_queueItem, State.inFlight_queueItem, or_assoc]
  rfl

/-- A queued item's mark is the only new one (R134). -/
theorem State.calls_of_calls_queueItem (h : (s.queueItem i).calls j) : j = i ∨ s.calls j := by
  obtain ⟨kj, x⟩ := j
  cases kj
  case tideRedo =>
    right
    simpa [State.calls] using h
  case driftApply =>
    simp only [State.calls, State.get_loops_queueItem, Option.map_map, eq_comm (a := i)] at h ⊢
    by_cases hi : ⟨.driftApply, x⟩ = i
    · exact .inl hi
    · simpa [hi, Function.comp_def] using h
  case stationValue =>
    obtain ⟨ki, y⟩ := i
    cases ki
    case stationValue =>
      obtain ⟨st, hst, hs⟩ := Table.mem_project.1 h
      obtain ⟨-, hm⟩ | ⟨rfl, -⟩ := Table.mem_modify (t := s.stations)
        (f := fun st => { st with valueStale := true }) hst
      · exact .inr (Table.mem_project.2 ⟨st, hm, hs⟩)
      · exact .inl rfl
    all_goals exact .inr h

theorem State.marksOwed.queueItem (h : s.marksOwed) (i : RevItem) : (s.queueItem i).marksOwed :=
  fun _ hj => State.owes_queueItem.2 ((State.calls_of_calls_queueItem hj).imp_right (h _))

theorem State.marksOwed.queueAll (is : List RevItem) :
    ∀ {s : State}, s.marksOwed → (s.queueAll is).marksOwed := by
  induction is with
  | nil => exact id
  | cons i is ih => exact fun h => ih (h.queueItem i)

end

/-! ## Items taken -/

/-- The station that is processed is no longer value-stale (R148). -/
theorem State.calls_of_calls_processStation {s : State} {k : Nat} {j : RevItem}
    (h : (s.processStation k).calls j) : j ≠ ⟨.stationValue, k⟩ ∧ s.calls j := by
  obtain ⟨st, n, hp⟩ := s.processStation_frame k
  obtain ⟨kind, x⟩ := j
  cases kind
  case stationValue =>
    obtain ⟨st', hst', hs⟩ := Table.mem_project.1 h
    unfold State.processStation at hst'
    split at hst'
    · next hnone =>
      refine ⟨?_, Table.mem_project.2 ⟨st', hst', hs⟩⟩
      rintro ⟨⟩
      exact Table.not_mem_of_get_none hnone _ hst'
    · next st₀ _ =>
      have hm : (x, st') ∈ Table.modify s.stations k fun st =>
          st.processed s.constants.spreadLimit (s.contributing st₀.chain) := by
        dsimp only at hst'
        split at hst' <;> exact hst'
      obtain ⟨hx, hm⟩ | ⟨-, a, -, rfl⟩ := Table.mem_modify hm
      · exact ⟨fun he => hx (congrArg RevItem.target he), Table.mem_project.2 ⟨st', hm, hs⟩⟩
      · cases hs
  all_goals
    rw [hp] at h
    exact ⟨nofun, h⟩

theorem State.inFlight_takeRedo (s : State) (n : Nat) :
    (s.takeRedo n).inFlight.map InFlight.item = some ⟨.tideRedo, n⟩ := by
  obtain ⟨t, h⟩ := State.requestRedoStep_frame { s with
    inFlight := some (.tideRedo n []
      ((((Table.get s.occupations n).map Occupation.steps).getD []).map TideStep.index)) }
  rw [State.takeRedo, h]
  rfl

/-- Taking items loses none that a mark still calls for (R136). -/
theorem takeItems_marksOwed (fuel : Nat) (s : State) (h : s.marksOwed) :
    (takeItems fuel s).marksOwed := by
  have waits {s : State} {i j : RevItem} {rest : List RevItem} (hf : s.inFlight = none)
      (hq : s.revQueue = i :: rest) (h : s.owes j) : j = i ∨ j ∈ rest := by
    rw [State.owes, hq, hf] at h
    exact List.mem_cons.1 (h.resolve_right nofun)
  refine takeItems_keeps (P := State.marksOwed) ?_ ?_ ?_ ?_ fuel s h
  · intro s i rest hf hq hk h j hj
    obtain ⟨hne, hc⟩ := State.calls_of_calls_processStation hj
    obtain ⟨st, n, hp⟩ := State.processStation_frame { s with revQueue := rest } i.target
    rw [hp]
    refine .inl ((waits hf hq (h j hc)).resolve_left ?_)
    rintro rfl
    exact hne (by rw [← hk])
  · intro s i rest hf hq hk h j hj
    have hitem := State.inFlight_takeRedo { s with revQueue := rest } i.target
    obtain ⟨f, t, hr⟩ := State.takeRedo_frame { s with revQueue := rest } i.target
    rw [hr] at hj hitem ⊢
    rcases waits hf hq (h j hj) with rfl | hm
    · exact .inr (by rw [hitem, ← hk])
    · exact .inl hm
  · intro s i rest hf hq hk h j hj
    exact .inl (List.mem_append.2 ((waits hf hq (h j hj)).symm.imp_right (List.mem_singleton.2 ·)))
  · intro s i rest hf hq hk h j hj
    rcases waits hf hq (h j hj) with rfl | hm
    · exact .inr (by rw [Option.map_some, InFlight.item, ← hk])
    · exact .inl hm

theorem State.marksOwed.revise {s : State} (h : s.marksOwed) (b : Bool) :
    (State.revise b s).marksOwed := by
  obtain ⟨n, hr⟩ := s.revise_cases b
  rw [hr]
  exact takeItems_marksOwed _ s h

/-! ## Marking tide-stale -/

theorem State.owes_restartRedo {s : State} {i : RevItem} (os : List Nat) (h : s.owes i) :
    (s.restartRedo os).owes i := by
  rcases h with hm | hf
  · exact .inl (State.mem_revQueue_restartRedo os hm)
  · unfold State.restartRedo
    split
    · next o ho =>
      split
      · obtain ⟨kind, x⟩ := i
        rw [State.owes_queueItem]
        left
        cases hfl : s.inFlight with
        | none => simp [hfl] at hf
        | some f => cases f <;> simp_all [State.redoing, InFlight.item]
      · exact .inr hf
    · exact .inr hf

theorem State.owes_queueAll {s : State} {i : RevItem} (is : List RevItem) (h : s.owes i) :
    (s.queueAll is).owes i := by
  rw [State.owes, State.mem_revQueue_queueAll, State.inFlight_queueAll]
  exact h.imp_left .inr

/-- Marking tide-stale and queueing the redos changes no loop and no station. -/
theorem State.markTideStale_redo_frame (s : State) (os : List Nat) :
    ∃ q f t, s.markTideStale os = { s with
      occupations := Table.modifyKeys s.occupations os fun o => { o with tideStale := true }
      revQueue := q, inFlight := f, tide := t } := by
  choose q h using fun ns s => State.queueRedos_frame ns s
  choose q' f t h' using State.restartRedo_frame
  simp only [State.markTideStale, h, h']
  exact ⟨_, _, _, rfl⟩

theorem State.marksOwed.markTideStale {s : State} (h : s.marksOwed) (os : List Nat) :
    (s.markTideStale os).marksOwed := by
  have howes (i : RevItem) (hi : s.owes i) : (s.markTideStale os).owes i :=
    State.owes_restartRedo os (State.owes_queueAll _ hi)
  refine h.of_calls (fun i hi => ?_) fun i _ => howes i
  obtain ⟨q, f, t, hm⟩ := s.markTideStale_redo_frame os
  obtain ⟨kind, x⟩ := i
  cases kind
  case tideRedo =>
    rw [hm] at hi
    obtain ⟨o, ho, haw⟩ := Table.mem_project.1 hi
    obtain ho | ⟨hx, -⟩ := Table.mem_modifyKeys (t := s.occupations)
      (f := fun o => { o with tideStale := true }) ho
    · exact .inl (Table.mem_project.2 ⟨o, ho, haw⟩)
    · exact .inr (State.owes_redo.2 (State.redoOwed_markTideStale hx))
  all_goals
    rw [hm] at hi
    exact .inl hi

end Sys2Proof.Machine
end

section
/-! The OPEN loops of each head (R119): the changes of the Loop Table that make one. -/

namespace Sys2Proof.Machine

theorem Table.length_filter_put_le {α : Type} (p : Nat × α → Bool) (t : Table α) (k : Nat) (a : α) :
    ((Table.put t k a).filter p).length ≤ (t.filter p).length + if p (k, a) then 1 else 0 := by
  induction t with
  | nil => simp [Table.put, List.filter_cons]; split <;> simp
  | cons e t ih =>
    unfold Table.put
    split
    · simp only [List.filter_cons]
      split <;> split <;> simp
    · split
      · simp only [List.filter_cons]
        split <;> split <;> simp
      · simp only [List.filter_cons]
        split
        · simp only [List.length_cons]
          omega
        · exact ih

namespace State

variable {s t : State}

theorem openLoopsOn_eq_nil {h : Head} : s.openLoopsOn h = [] ↔ s.openLoop h = none := by
  rw [openLoopsOn, openLoop, List.filter_eq_nil_iff, List.find?_eq_none]

theorem oneOpenLoop.of_le (ho : s.oneOpenLoop)
    (hle : ∀ h, (t.openLoopsOn h).length ≤ (s.openLoopsOn h).length) : t.oneOpenLoop :=
  fun h => (hle h).trans (ho h)

theorem oneOpenLoop.of_loops (ho : s.oneOpenLoop) (hl : t.loops = s.loops) : t.oneOpenLoop :=
  ho.of_le fun h => by rw [openLoopsOn, openLoopsOn, hl]

/-- No loop comes to be OPEN, and no OPEN one changes its head. -/
theorem oneOpenLoop.of_modify (ho : s.oneOpenLoop) {k : Nat} {f : Loop → Loop}
    (hl : t.loops = Table.modify s.loops k f)
    (hf : ∀ l, (f l).state = .opened → l.state = .opened ∧ (f l).head = l.head) : t.oneOpenLoop := by
  refine ho.of_le fun h => ?_
  rw [openLoopsOn, openLoopsOn, hl, Table.modify, ← List.countP_eq_length_filter,
    ← List.countP_eq_length_filter, List.countP_map]
  refine List.countP_mono_left fun e _ he => ?_
  simp only [Function.comp] at he
  split at he
  · simp only [Bool.and_eq_true, beq_iff_eq] at he ⊢
    obtain ⟨hs, hh⟩ := hf e.2 he.2
    exact ⟨hh ▸ he.1, hs⟩
  · exact he

theorem oneOpenLoop.of_filter (ho : s.oneOpenLoop) {p : Nat × Loop → Bool}
    (hl : t.loops = s.loops.filter p) : t.oneOpenLoop :=
  ho.of_le fun h => by
    rw [openLoopsOn, openLoopsOn, hl, List.filter_comm]
    exact List.length_filter_le _ _

theorem oneOpenLoop_of_empty (hl : t.loops = []) : t.oneOpenLoop := by
  intro h
  rw [openLoopsOn, hl]
  exact Nat.zero_le 1

theorem oneOpenLoop.queueItem (ho : s.oneOpenLoop) (i : RevItem) : (s.queueItem i).oneOpenLoop := by
  obtain ⟨kind, k⟩ := i
  cases kind
  case driftApply =>
    exact ho.of_modify (k := k) (f := fun l => { l with state := .closing }) rfl nofun
  all_goals exact ho.of_loops rfl

theorem oneOpenLoop.queueAll (is : List RevItem) :
    ∀ {s : State}, s.oneOpenLoop → (s.queueAll is).oneOpenLoop := by
  induction is with
  | nil => exact id
  | cons i is ih => exact fun ho => ih (ho.queueItem i)

/-- A loop is opened for a head that has no OPEN one (R118). -/
theorem oneOpenLoop.startLoop (ho : s.oneOpenLoop) {o : Occupation} (hn : s.openLoop o.head = none)
    (n : Nat) (a : Bool) : (s.startLoop n o a).oneOpenLoop := by
  cases hf : Table.firstFree s.loops 32 with
  | none =>
    rw [startLoop_of_full hf]
    exact ho
  | some k =>
    rw [startLoop_of_free hf]
    intro h
    refine (Table.length_filter_put_le _ s.loops k (Loop.fresh n o)).trans ?_
    change (s.openLoopsOn h).length + _ ≤ 1
    by_cases hh : o.head = h
    · rw [← hh, openLoopsOn_eq_nil.2 hn]
      split <;> simp
    · simpa [Loop.fresh, hh] using ho h

/-- A closed loop leaves its head without an OPEN one (R116, R119). -/
theorem oneOpenLoop.openLoop_closing (ho : s.oneOpenLoop) {h : Head} {k : Nat} {l : Loop}
    (hl : s.openLoop h = some (k, l)) (n : Nat) : (s.closing k n).openLoop h = none := by
  have hopens := List.find?_some hl
  have honly {e : Nat × Loop} (he : e ∈ s.openLoopsOn h) : e.1 = k := by
    have hmem : (k, l) ∈ s.openLoopsOn h :=
      List.mem_filter.2 ⟨List.mem_of_find?_eq_some hl, hopens⟩
    obtain ⟨x, hx⟩ := List.length_eq_one_iff.1
      (Nat.le_antisymm (ho h) (List.length_pos_of_mem hmem))
    rw [hx, List.mem_singleton] at hmem he
    rw [he, ← hmem]
  rw [← openLoopsOn_eq_nil, openLoopsOn, loops_closing, List.filter_eq_nil_iff]
  intro e he hopen
  obtain ⟨hk, he⟩ | ⟨hk, l', -, hl'⟩ := Table.mem_modify he
  · exact hk (honly (List.mem_filter.2 ⟨he, hopen⟩))
  · simp [hl'] at hopen

theorem oneOpenLoop.handOver (ho : s.oneOpenLoop) (n : Nat) : (s.handOver n).oneOpenLoop := by
  cases hn : Table.get s.occupations n with
  | none => rwa [State.handOver, hn]
  | some o =>
    cases hl : s.openLoop o.head with
    | none =>
      rw [handOver_of_none hn hl]
      split
      · exact ho.startLoop hl n true
      · exact ho
    | some e =>
      obtain ⟨k, l⟩ := e
      by_cases hb : l.base = o.station
      · rw [handOver_of_base hn hl hb]
        refine oneOpenLoop.startLoop ?_ (ho.openLoop_closing hl n) n false
        exact ho.of_modify (s.loops_closing k n) nofun
      · rw [handOver_of_other hn hl hb, joinLoop]
        split
        · exact ho.of_modify (k := k) (f := fun l => { l with members := l.members ++ [n] }) rfl
            fun l hs => ⟨hs, rfl⟩
        · exact ho

end State

end Sys2Proof.Machine
end

section
/-! The sound Loop Table (R112 to R114, R119): what a loop needs of its occupations, and which operations of
the Drift Unit leave it. -/

namespace Sys2Proof.Machine

/-! ## What a loop needs -/

/-- Loop `l` of entry `k` is sound: its opener, closer and members are CLOSED records of its head and
calibration generation in their roles, and its fields agree with its state (R112, R113, R114, R119). -/
structure State.loopHolds (s : State) (k : Nat) (l : Loop) : Prop where
  opener : ∃ o, Table.get s.occupations l.opener = some o ∧ l.names o ∧ o.anchorsLoop = some k
    ∧ o.station = l.base
  closer : ∀ c, l.closer = some c → ∃ o, Table.get s.occupations c = some o ∧ l.names o
    ∧ o.driftLoop = some k ∧ o.station = l.base
  members : ∀ m ∈ l.members, ∃ o, Table.get s.occupations m = some o ∧ l.names o
    ∧ o.driftLoop = some k
  nodup : l.members.Nodup
  room : l.members.length ≤ 64
  opened : l.state = .opened ↔ l.closer = none
  rate : l.state = .closed ∨ l.state = .suspect → l.rate ≠ none
  calGen : l.state = .opened → l.calGen = s.calGen.get l.head

/-- OPEN occupations carry their head's calibration generation (R50, R119). -/
def State.openCurrent (s : State) : Prop :=
  ∀ n o, Table.get s.occupations n = some o → o.state = .opened → o.calGen = s.calGen.get o.head

theorem State.loopsSound_iff {s : State} :
    s.loopsSound ↔ (∀ k l, Table.get s.loops k = some l → s.loopHolds k l) ∧ s.openCurrent := by
  refine and_congr_left fun _ => forall₃_congr fun k l _ => ⟨?_, ?_⟩
  · rintro ⟨h1, h2, h3, h4, h5, h6, h7, h8⟩
    exact ⟨h1, h2, h3, h4, h5, h6, h7, h8⟩
  · rintro ⟨h1, h2, h3, h4, h5, h6, h7, h8⟩
    exact ⟨h1, h2, h3, h4, h5, h6, h7, h8⟩

/-- Where an occupation belongs: what a loop compares (R114, R119). -/
structure Belonging where
  state : OccState
  head : Head
  calGen : Gen
  station : Nat

def Occupation.belonging (o : Occupation) : Belonging := ⟨o.state, o.head, o.calGen, o.station⟩

/-- Record `o'` serves loop `k` as `o` does. -/
structure Occupation.servesAs (k : Nat) (o o' : Occupation) : Prop where
  belonging : o'.belonging = o.belonging
  anchors : o.anchorsLoop = some k → o'.anchorsLoop = some k
  drift : o.driftLoop = some k → o'.driftLoop = some k

theorem Occupation.servesAs_refl (k : Nat) (o : Occupation) : o.servesAs k o := ⟨rfl, id, id⟩

section

variable {l : Loop} {o o' : Occupation}

theorem Loop.names_of_belonging (h : o'.belonging = o.belonging) (hn : l.names o) : l.names o' := by
  simp only [Occupation.belonging, Belonging.mk.injEq] at h
  obtain ⟨hstate, hhead, hgen, -⟩ := h
  rwa [Loop.names, hstate, hhead, hgen]

theorem Occupation.station_of_belonging (h : o'.belonging = o.belonging) : o'.station = o.station :=
  congrArg Belonging.station h

theorem Occupation.state_of_belonging (h : o'.belonging = o.belonging) : o'.state = o.state :=
  congrArg Belonging.state h

end

section

variable {s t : State} {k : Nat} {l : Loop}

/-- A loop stays sound where each of its CLOSED records goes on serving it. -/
theorem State.loopHolds.of_kept (h : s.loopHolds k l)
    (hocc : ∀ m ∈ l.occupants, ∀ o, Table.get s.occupations m = some o → o.state = .closed →
      ∃ o', Table.get t.occupations m = some o' ∧ o.servesAs k o')
    (hgen : l.state = .opened → t.calGen.get l.head = s.calGen.get l.head) : t.loopHolds k l where
  opener := by
    obtain ⟨o, ho, hn, ha, hb⟩ := h.opener
    obtain ⟨o', ho', hk⟩ := hocc _ (Loop.mem_occupants.2 (.inl rfl)) o ho hn.1
    exact ⟨o', ho', Loop.names_of_belonging hk.belonging hn, hk.anchors ha,
      (Occupation.station_of_belonging hk.belonging).trans hb⟩
  closer c hc := by
    obtain ⟨o, ho, hn, hd, hb⟩ := h.closer c hc
    obtain ⟨o', ho', hk⟩ := hocc _ (Loop.mem_occupants.2 (.inr (.inl hc))) o ho hn.1
    exact ⟨o', ho', Loop.names_of_belonging hk.belonging hn, hk.drift hd,
      (Occupation.station_of_belonging hk.belonging).trans hb⟩
  members m hm := by
    obtain ⟨o, ho, hn, hd⟩ := h.members m hm
    obtain ⟨o', ho', hk⟩ := hocc _ (Loop.mem_occupants.2 (.inr (.inr hm))) o ho hn.1
    exact ⟨o', ho', Loop.names_of_belonging hk.belonging hn, hk.drift hd⟩
  nodup := h.nodup
  room := h.room
  opened := h.opened
  rate := h.rate
  calGen ho := (h.calGen ho).trans (hgen ho).symm

theorem State.loopHolds.congr (h : s.loopHolds k l) (ho : t.occupations = s.occupations)
    (hg : t.calGen = s.calGen) : t.loopHolds k l :=
  h.of_kept (fun _ _ o hget _ => ⟨o, by rw [ho, hget], o.servesAs_refl k⟩) fun _ => by rw [hg]

/-- A loop with a closer may become CLOSING again (R113, R134). -/
theorem State.loopHolds.closing (h : s.loopHolds k l) (hn : l.state ≠ .opened) :
    s.loopHolds k { l with state := .closing } where
  __ := h
  opened := ⟨nofun, fun hc => absurd (h.opened.2 hc) hn⟩
  rate := nofun
  calGen := nofun

/-- A loop with a closer that is applied: CLOSED or SUSPECT, with a rate (R122, R124). -/
theorem State.loopHolds.applied (h : s.loopHolds k l) {c : Nat} (hc : l.closer = some c) (r : Int)
    {x : LoopState} (hx : x ≠ .opened) : s.loopHolds k { l with rate := some r, state := x } where
  __ := h
  opened := ⟨fun ho => absurd ho hx, fun hn => nomatch hc.symm.trans hn⟩
  rate _ := nofun
  calGen ho := absurd ho hx

/-- A member leaves the list (R130). -/
theorem State.loopHolds.without (h : s.loopHolds k l) (n : Nat) : s.loopHolds k (l.without n) where
  __ := h
  members m hm := h.members m (List.mem_filter.1 hm).1
  nodup := h.nodup.filter _
  room := (List.length_filter_le _ _).trans h.room

/-- The roles of record `m` in loop `l` of entry `k` show in the record (R114). -/
structure Loop.shows (l : Loop) (k m : Nat) (o : Occupation) : Prop where
  opener : m = l.opener → o.anchorsLoop = some k ∧ o.station = l.base
  closer : l.closer = some m → o.driftLoop = some k ∧ o.station = l.base
  member : m ∈ l.members → o.driftLoop = some k
  occupant : m ∈ l.occupants → o.state = .closed

theorem State.loopHolds.role (h : s.loopHolds k l) {m : Nat} {o : Occupation}
    (ho : Table.get s.occupations m = some o) : l.shows k m o := by
  have hopener : m = l.opener → l.names o ∧ o.anchorsLoop = some k ∧ o.station = l.base := by
    rintro rfl
    obtain ⟨o', ho', h'⟩ := h.opener
    exact Option.some.inj (ho'.symm.trans ho) ▸ h'
  have hcloser (hc : l.closer = some m) : l.names o ∧ o.driftLoop = some k ∧ o.station = l.base := by
    obtain ⟨o', ho', h'⟩ := h.closer m hc
    exact Option.some.inj (ho'.symm.trans ho) ▸ h'
  have hmember (hm : m ∈ l.members) : l.names o ∧ o.driftLoop = some k := by
    obtain ⟨o', ho', h'⟩ := h.members m hm
    exact Option.some.inj (ho'.symm.trans ho) ▸ h'
  refine ⟨fun hm => (hopener hm).2, fun hm => (hcloser hm).2, fun hm => (hmember hm).2, fun hm => ?_⟩
  obtain hm | hm | hm := Loop.mem_occupants.1 hm
  · exact (hopener hm).1.1
  · exact (hcloser hm).1.1
  · exact (hmember hm).1.1

end

/-! ## Operations that leave the occupations' roles -/

/-- What the invariants on loops read of a record: its belonging, its loops and its tide-stale mark. -/
structure Standing where
  belonging : Belonging
  driftLoop : Option Nat
  anchorsLoop : Option Nat
  tideStale : Bool

def Occupation.standing (o : Occupation) : Standing :=
  ⟨o.belonging, o.driftLoop, o.anchorsLoop, o.tideStale⟩

/-- What a loop reads of a record. -/
def Occupation.loopRole (o : Occupation) : Belonging × Option Nat × Option Nat :=
  (o.belonging, o.driftLoop, o.anchorsLoop)

namespace State

variable {s t : State}

theorem openCurrent.of_kept (h : s.openCurrent)
    (ho : ∀ n o, Table.get t.occupations n = some o → o.state = .opened →
      ∃ o', Table.get s.occupations n = some o' ∧ o'.belonging = o.belonging)
    (hg : t.calGen = s.calGen) : t.openCurrent := by
  intro n o hn hs
  obtain ⟨o', hn', hb⟩ := ho n o hn hs
  have := h n o' hn' ((Occupation.state_of_belonging hb).trans hs)
  rw [hg, ← show o'.calGen = o.calGen from congrArg Belonging.calGen hb,
    ← show o'.head = o.head from congrArg Belonging.head hb]
  exact this

/-- The Loop Table is sound after a change of the loops alone that leaves each sound. -/
theorem loopsSound.of_occupations (hs : s.loopsSound) (ho : t.occupations = s.occupations)
    (hg : t.calGen = s.calGen) (hl : ∀ k l, Table.get t.loops k = some l → s.loopHolds k l) :
    t.loopsSound :=
  loopsSound_iff.2 ⟨fun k l hk => (hl k l hk).congr ho hg,
    (loopsSound_iff.1 hs).2.of_kept (fun _ o hn _ => ⟨o, ho ▸ hn, rfl⟩) hg⟩

/-- The records keep their roles, and the loops stay sound. -/
theorem loopsSound.of_roles (hs : s.loopsSound)
    (ho : Table.project Occupation.loopRole t.occupations
      = Table.project Occupation.loopRole s.occupations) (hg : t.calGen = s.calGen)
    (hl : ∀ k l, Table.get t.loops k = some l → s.loopHolds k l) : t.loopsSound := by
  refine loopsSound_iff.2 ⟨fun k l hk => (hl k l hk).of_kept (fun m _ o hm _ => ?_) fun _ => by rw [hg],
    (loopsSound_iff.1 hs).2.of_kept (fun n o hn _ => ?_) hg⟩
  · obtain ⟨o', ho', hr⟩ := Table.get_of_project_eq ho.symm hm
    simp only [Occupation.loopRole, Prod.mk.injEq] at hr
    obtain ⟨hb, hd, ha⟩ := hr
    exact ⟨o', ho', hb, fun h => ha.trans h, fun h => hd.trans h⟩
  · obtain ⟨o', ho', hr⟩ := Table.get_of_project_eq ho hn
    exact ⟨o', ho', congrArg Prod.fst hr⟩

theorem loopsSound.of_same (hs : s.loopsSound)
    (ho : Table.project Occupation.loopRole t.occupations
      = Table.project Occupation.loopRole s.occupations) (hg : t.calGen = s.calGen)
    (hl : t.loops = s.loops) : t.loopsSound :=
  hs.of_roles ho hg fun k l hk => (loopsSound_iff.1 hs).1 k l (hl ▸ hk)

theorem loopsSound.holds (hs : s.loopsSound) {k : Nat} {l : Loop} (hl : Table.get s.loops k = some l) :
    s.loopHolds k l :=
  (loopsSound_iff.1 hs).1 k l hl

theorem calGen_queueItem (s : State) (i : RevItem) : (s.queueItem i).calGen = s.calGen := by
  obtain ⟨q, l, st, h⟩ := s.queueItem_frame i
  rw [h]

/-- An application is queued for a loop that has its closer (R113, R134). -/
theorem loopsSound.queueItem (hs : s.loopsSound) {i : RevItem}
    (hi : ∀ l, Table.get s.loops i.target = some l → i.kind = .driftApply → l.state ≠ .opened) :
    (s.queueItem i).loopsSound := by
  refine hs.of_occupations (s.occupations_queueItem i) (s.calGen_queueItem i) fun k l hl => ?_
  rw [get_loops_queueItem] at hl
  obtain ⟨l', hl', rfl⟩ := Option.map_eq_some_iff.1 hl
  split
  · next he =>
    subst he
    exact (hs.holds hl').closing (hi l' hl' rfl)
  · exact hs.holds hl'

theorem loopsSound.queueAll (is : List RevItem) :
    ∀ {s : State}, s.loopsSound →
      (∀ k l, ⟨.driftApply, k⟩ ∈ is → Table.get s.loops k = some l → l.state ≠ .opened) →
      (s.queueAll is).loopsSound := by
  induction is with
  | nil => exact fun hs _ => hs
  | cons i is ih =>
    intro s hs hi
    refine ih (hs.queueItem fun l hl hk => hi _ l ?_ hl) fun k l hk hl => ?_
    · rw [← hk]
      exact List.mem_cons_self
    · rw [get_loops_queueItem] at hl
      obtain ⟨l', hl', rfl⟩ := Option.map_eq_some_iff.1 hl
      split
      · nofun
      · exact hi k l' (List.mem_cons_of_mem _ hk) hl'

theorem loopsSound.revise (hs : s.loopsSound) (b : Bool) : (State.revise b s).loopsSound := by
  obtain ⟨q, f, t, st, n, h⟩ := State.revise_frame b s
  rw [h]
  exact hs

/-! ## A loop opened, joined, closed -/

/-- A record CLOSED in its head's generation that plays no role opens a loop (R118). -/
theorem loopsSound.startLoop (hs : s.loopsSound) {n : Nat} {o : Occupation} {dl : Option Nat}
    (ho : Table.get s.occupations n = some { o with driftLoop := dl }) (hc : o.state = .closed)
    (ha : o.anchorsLoop = none) (hg : o.calGen = s.calGen.get o.head) (a : Bool) :
    (s.startLoop n o a).loopsSound := by
  cases hf : Table.firstFree s.loops 32 with
  | none =>
    rw [startLoop_of_full hf]
    exact hs
  | some k =>
    rw [startLoop_of_free hf]
    generalize ht : { s with loops := Table.put s.loops k (Loop.fresh n o) }.modifyOccupation n
      (Occupation.anchoring k a) = t
    have hocc (m : Nat) : Table.get t.occupations m
        = if m = n then (Table.get s.occupations m).map (Occupation.anchoring k a)
          else Table.get s.occupations m := by
      rw [← ht]
      exact Table.get_modify _ _ _ _
    have hn : Table.get t.occupations n
        = some (Occupation.anchoring k a { o with driftLoop := dl }) := by
      rw [hocc, if_pos rfl, ho, Option.map_some]
    have hrole (x : Occupation) : (x.anchoring k a).belonging = x.belonging
        ∧ (x.anchoring k a).anchorsLoop = some k ∧ (x.anchoring k a).driftLoop = x.driftLoop := by
      cases a <;> exact ⟨rfl, rfl, rfl⟩
    obtain ⟨hbelongs, hanchors, -⟩ := hrole { o with driftLoop := dl }
    have hgen : t.calGen = s.calGen := by rw [← ht]; rfl
    refine loopsSound_iff.2 ⟨fun j l hl => ?_, (loopsSound_iff.1 hs).2.of_kept (fun m x hm _ => ?_) hgen⟩
    · rw [← ht, modifyOccupation_loops, Table.get_put] at hl
      split at hl
      · next hj =>
        cases hl
        subst hj
        exact {
          opener := ⟨_, hn, Loop.names_of_belonging hbelongs ⟨hc, rfl, rfl⟩, hanchors,
            Occupation.station_of_belonging hbelongs⟩
          closer := nofun
          members := nofun
          nodup := List.nodup_nil
          room := Nat.zero_le _
          opened := ⟨fun _ => rfl, fun _ => rfl⟩
          rate := nofun
          calGen := fun _ => hg.trans (by rw [hgen]; rfl) }
      · next hj =>
        refine (hs.holds hl).of_kept (fun m _ x hm _ => ?_) fun _ => by rw [hgen]
        rw [hocc, hm]
        split
        · next hmn =>
          obtain ⟨hb, -, hd⟩ := hrole x
          refine ⟨_, rfl, hb, fun h => ?_, fun h => hd.trans h⟩
          rw [hmn, ho] at hm
          cases hm
          cases ha.symm.trans h
        · exact ⟨x, rfl, x.servesAs_refl j⟩
    · rw [hocc] at hm
      split at hm
      · obtain ⟨y, hy, rfl⟩ := Option.map_eq_some_iff.1 hm
        exact ⟨y, hy, (hrole y).1.symm⟩
      · exact ⟨x, hm, rfl⟩

section

variable {n k : Nat} {o : Occupation} {l : Loop}

/-- A record that plays no drift role takes one in entry `k`: the other loops do not name it. -/
theorem loopHolds.of_joined {j : Nat} {l' : Loop} (h : s.loopHolds j l')
    (ho : Table.get s.occupations n = some o) (hd : o.driftLoop = none)
    (hocc : t.occupations = Table.modify s.occupations n fun o => { o with driftLoop := some k })
    (hgen : t.calGen = s.calGen) : t.loopHolds j l' := by
  refine h.of_kept (fun m _ x hm _ => ?_) fun _ => by rw [hgen]
  rw [hocc, Table.get_modify, hm]
  split
  · next hmn =>
    refine ⟨_, rfl, rfl, id, fun h => ?_⟩
    rw [hmn, ho] at hm
    cases hm
    cases hd.symm.trans h
  · exact ⟨x, rfl, x.servesAs_refl j⟩

theorem openCurrent.of_joined (h : s.openCurrent)
    (hocc : t.occupations = Table.modify s.occupations n fun o => { o with driftLoop := some k })
    (hgen : t.calGen = s.calGen) : t.openCurrent := by
  refine h.of_kept (fun m x hm _ => ?_) hgen
  rw [hocc, Table.get_modify] at hm
  split at hm
  · obtain ⟨y, hy, rfl⟩ := Option.map_eq_some_iff.1 hm
    exact ⟨y, hy, rfl⟩
  · exact ⟨x, hm, rfl⟩

variable (hs : s.loopsSound) (ho : Table.get s.occupations n = some o) (hc : o.state = .closed)
  (hd : o.driftLoop = none) (hg : o.calGen = s.calGen.get o.head) (hl : Table.get s.loops k = some l)
  (hh : l.head = o.head) (hopen : l.state = .opened)

include hs ho hc hd hg hl hh hopen

/-- A loop of the record's head, OPEN and so of its generation, takes it as closer (R114, R116). -/
theorem loopsSound.closing (hb : l.base = o.station) : (s.closing k n).loopsSound := by
  have hocc := s.occupations_closing k n
  have hgen : (s.closing k n).calGen = s.calGen := rfl
  refine loopsSound_iff.2 ⟨fun j x hx => ?_, (loopsSound_iff.1 hs).2.of_joined hocc hgen⟩
  rw [loops_closing, Table.get_modify] at hx
  split at hx
  · next hj =>
    subst hj
    rw [hl] at hx
    cases hx
    have hkept := (hs.holds hl).of_joined ho hd hocc hgen
    exact { hkept with
      closer := by
        rintro c ⟨⟩
        exact ⟨_, get_occupations_closing ho j, ⟨hc, hh.symm, hg.trans
          (((hs.holds hl).calGen hopen).trans (by rw [hh])).symm⟩, rfl, hb.symm⟩
      opened := ⟨nofun, nofun⟩
      rate := nofun
      calGen := nofun }
  · exact (hs.holds hx).of_joined ho hd hocc hgen

/-- A loop of the record's head, OPEN and so of its generation, takes it as member (R114, R117). -/
theorem loopsSound.joinLoop : (s.joinLoop k l n).loopsSound := by
  unfold State.joinLoop
  split
  · next hroom =>
    generalize ht : ((s.modifyLoop k fun l => { l with members := l.members ++ [n] }).modifyOccupation n
      fun o => { o with driftLoop := some k }) = t
    have hocc : t.occupations = Table.modify s.occupations n fun o => { o with driftLoop := some k } := by
      rw [← ht]
      rfl
    have hgen : t.calGen = s.calGen := by rw [← ht]; rfl
    refine loopsSound_iff.2 ⟨fun j x hx => ?_, (loopsSound_iff.1 hs).2.of_joined hocc hgen⟩
    rw [← ht, modifyOccupation_loops, modifyLoop_loops, Table.get_modify] at hx
    split at hx
    · next hj =>
      subst hj
      rw [hl] at hx
      cases hx
      have hkept := (hs.holds hl).of_joined ho hd hocc hgen
      have hnew : n ∉ l.members := fun hm => nomatch hd.symm.trans (((hs.holds hl).role ho).member hm)
      exact { hkept with
        members := fun m hm => (List.mem_append.1 hm).elim (hkept.members m) fun hm => by
          rw [List.mem_singleton.1 hm, hocc, Table.get_modify_self ho]
          exact ⟨_, rfl, ⟨hc, hh.symm, hg.trans
            (((hs.holds hl).calGen hopen).trans (by rw [hh])).symm⟩, rfl⟩
        nodup := List.nodup_append.2 ⟨hkept.nodup, List.nodup_singleton n, fun a ha b hb => by
          rintro rfl
          exact hnew (List.mem_singleton.1 hb ▸ ha)⟩
        room := by
          rw [List.length_append, List.length_singleton]
          exact hroom }
    · exact (hs.holds hx).of_joined ho hd hocc hgen
  · exact hs

end

/-- The handover of a record just closed (R115): it plays no role yet. -/
theorem loopsSound.handOver (hs : s.loopsSound) (hwf : Table.wf s.loops) {n : Nat} {o : Occupation}
    (ho : Table.get s.occupations n = some o) (hc : o.state = .closed) (hd : o.driftLoop = none)
    (ha : o.anchorsLoop = none) (hg : o.calGen = s.calGen.get o.head) :
    (s.handOver n).loopsSound := by
  cases hl : s.openLoop o.head with
  | none =>
    rw [handOver_of_none ho hl]
    split
    · exact hs.startLoop (dl := o.driftLoop) ho hc ha hg true
    · exact hs
  | some e =>
    obtain ⟨k, l⟩ := e
    obtain ⟨hget, hh, hopen⟩ := openLoop_eq_some hwf hl
    by_cases hb : l.base = o.station
    · rw [handOver_of_base ho hl hb]
      exact (hs.closing ho hc hd hg hget hh hopen hb).startLoop (get_occupations_closing ho k) hc ha
        hg false
    · rw [handOver_of_other ho hl hb]
      exact hs.joinLoop ho hc hd hg hget hh hopen

end State

end Sys2Proof.Machine
end

section
/-! What an operation keeps of the Loop Table and of the revision work, and the operations that leave both
as they are (R113, R119, R136). -/

namespace Sys2Proof.Machine

/-! ## The relation -/

/-- A part with its supply whose indexed records, engines and loops are sound. -/
structure State.orderly (s : State) : Prop where
  vdd : s.vdd = true
  indexed : s.recordsIndexed
  chains : s.chainsAgree
  engines : s.enginesAgree
  sound : s.loopsSound

theorem State.recordsIndexed.loops_wf {s : State} (hi : s.recordsIndexed) : Table.wf s.loops := by
  obtain ⟨-, -, hloops, -⟩ := hi
  exact hloops

theorem State.orderly.loops_wf {s : State} (hs : s.orderly) : Table.wf s.loops := hs.indexed.loops_wf

/-- From `s` to `t` supply and marker stay; each head keeps at most one OPEN loop, the marks their items,
and an orderly state its sound loops. -/
structure State.keepsLoops (s t : State) : Prop where
  records : s.keepsRecords t
  vdd : t.vdd = s.vdd
  backupValid : t.backupValid = s.backupValid
  oneOpen : s.oneOpenLoop → t.oneOpenLoop
  marks : s.marksOwed → t.marksOwed
  sound : s.orderly → t.loopsSound

namespace State.keepsLoops

variable {s t u : State}

theorem orderly (h : s.keepsLoops t) (hs : s.orderly) : t.orderly where
  vdd := h.vdd.trans hs.vdd
  indexed := h.records.indexed hs.indexed
  chains := h.records.chains hs.indexed hs.chains
  engines := h.records.engines hs.indexed hs.chains hs.engines
  sound := h.sound hs

theorem refl (s : State) : s.keepsLoops s := ⟨.refl s, rfl, rfl, id, id, State.orderly.sound⟩

theorem trans (h : s.keepsLoops t) (h' : t.keepsLoops u) : s.keepsLoops u where
  records := h.records.trans h'.records
  vdd := h'.vdd.trans h.vdd
  backupValid := h'.backupValid.trans h.backupValid
  oneOpen ho := h'.oneOpen (h.oneOpen ho)
  marks hm := h'.marks (h.marks hm)
  sound hs := h'.sound (h.orderly hs)

theorem ite {c : Prop} {_ : Decidable c} (h : s.keepsLoops t) : s.keepsLoops (if c then t else s) := by
  split
  · exact h
  · exact .refl s

/-- An operation whose records keep their places. -/
theorem of_sameRecords (h : s.sameRecords t) (oneOpen : s.oneOpenLoop → t.oneOpenLoop)
    (marks : s.marksOwed → t.marksOwed) (sound : s.orderly → t.loopsSound) : s.keepsLoops t :=
  ⟨h.keeps, h.vdd, h.backupValid, oneOpen, marks, sound⟩

end State.keepsLoops

/-! ## Operations that leave loops, marks and items -/

/-- From `s` to `t` the loops, the generations, the standing of every record, the marks and the items stay
as they are. -/
structure State.sameLoops (s t : State) : Prop where
  loops : t.loops = s.loops
  calGen : t.calGen = s.calGen
  occupations :
    Table.project Occupation.standing t.occupations = Table.project Occupation.standing s.occupations
  stations : Table.project Station.valueStale t.stations = Table.project Station.valueStale s.stations
  revQueue : t.revQueue = s.revQueue
  inFlight : t.inFlight.map InFlight.item = s.inFlight.map InFlight.item
  vdd : t.vdd = s.vdd
  backupValid : t.backupValid = s.backupValid

namespace State.sameLoops

variable {s t u : State}

theorem refl (s : State) : s.sameLoops s := ⟨rfl, rfl, rfl, rfl, rfl, rfl, rfl, rfl⟩

theorem trans (h : s.sameLoops t) (h' : t.sameLoops u) : s.sameLoops u :=
  ⟨h'.loops.trans h.loops, h'.calGen.trans h.calGen, h'.occupations.trans h.occupations,
    h'.stations.trans h.stations, h'.revQueue.trans h.revQueue, h'.inFlight.trans h.inFlight,
    h'.vdd.trans h.vdd, h'.backupValid.trans h.backupValid⟩

theorem awaitsRedo (h : s.sameLoops t) : Table.project Occupation.awaitsRedo t.occupations
    = Table.project Occupation.awaitsRedo s.occupations :=
  Table.project_comp_eq (g := Occupation.standing)
    (fun x => x.belonging.state == .closed && x.tideStale) h.occupations

theorem owes (h : s.sameLoops t) {i : RevItem} : t.owes i ↔ s.owes i := by
  rw [State.owes, State.owes, h.revQueue, h.inFlight]

theorem marksOwed (h : s.sameLoops t) (hm : s.marksOwed) : t.marksOwed :=
  hm.of_calls (fun i hi => .inl ((State.calls_congr h.awaitsRedo (fun _ => by rw [h.loops])
    h.stations i).1 hi)) fun _ _ => h.owes.2

theorem loopsSound (h : s.sameLoops t) (hs : s.loopsSound) : t.loopsSound :=
  hs.of_same (Table.project_comp_eq (g := Occupation.standing)
    (fun x => (x.belonging, x.driftLoop, x.anchorsLoop)) h.occupations) h.calGen h.loops

theorem keeps (h : s.sameLoops t) (hr : s.keepsRecords t) : s.keepsLoops t :=
  ⟨hr, h.vdd, h.backupValid, fun ho => ho.of_loops h.loops, h.marksOwed, fun hs => h.loopsSound hs.sound⟩

end State.sameLoops

namespace State

variable (s : State)

theorem sameLoops_modifyOccupation (n : Nat) {f : Occupation → Occupation}
    (hf : ∀ o, (f o).standing = o.standing := by exact fun _ => rfl) :
    s.sameLoops (s.modifyOccupation n f) :=
  { sameLoops.refl s with occupations := Table.project_modify hf _ _ }

theorem sameLoops_setEngine (h : Head) (e : Engine) : s.sameLoops (s.setEngine h e) :=
  { sameLoops.refl s with }

theorem sameLoops_setChannel (h : Head) (c : Channel) : s.sameLoops (s.setChannel h c) :=
  { sameLoops.refl s with }

theorem sameLoops_respond (tag : Byte) (a : Answer) : s.sameLoops (s.respond tag a) :=
  { sameLoops.refl s with }

theorem sameLoops_tide (t : TideEngine) : s.sameLoops { s with tide := t } :=
  { sameLoops.refl s with }

theorem sameLoops_startEvaluation : s.sameLoops s.startEvaluation := by
  obtain ⟨t, h⟩ := s.startEvaluation_frame
  rw [h]
  exact s.sameLoops_tide t

theorem sameLoops_withdraw (src : TideSource) : s.sameLoops (s.withdraw src) := by
  obtain ⟨t, h⟩ := s.withdraw_frame src
  rw [h]
  exact s.sameLoops_tide t

theorem sameLoops_requestRedoStep : s.sameLoops s.requestRedoStep := by
  obtain ⟨t, h⟩ := s.requestRedoStep_frame
  rw [h]
  exact s.sameLoops_tide t

theorem sameLoops_placeOwed (h : Head) : s.sameLoops (s.placeOwed h) := by
  obtain ⟨e, t, hp⟩ := s.placeOwed_frame h
  rw [hp]
  exact { sameLoops.refl s with }

theorem sameLoops_settleReached (h : Head) : s.sameLoops (s.settleReached h) := by
  obtain ⟨e, hr⟩ := s.settleReached_frame h
  rw [hr]
  exact { sameLoops.refl s with }

theorem sameLoops_enterIntegrating (h : Head) (t : TimeMs) :
    s.sameLoops (s.enterIntegrating h t) := by
  obtain ⟨e, hr⟩ := s.enterIntegrating_frame h t
  rw [hr]
  exact { sameLoops.refl s with }

theorem sameLoops_loseHead (h : Head) : s.sameLoops (s.loseHead h) := by
  obtain ⟨c, n, e, hl⟩ := s.loseHead_frame h
  rw [hl]
  exact { sameLoops.refl s with }

theorem sameLoops_integrateSample (h : Head) (w : Session) (g : Integration) (x : Sample) :
    s.sameLoops (s.integrateSample h w g x) :=
  (s.sameLoops_modifyOccupation w.occupation).trans
    ((sameLoops_setEngine _ h _).trans (sameLoops_placeOwed _ h))

theorem sameLoops_engineCorrupt (h : Head) : s.sameLoops (s.engineCorrupt h) := by
  unfold State.engineCorrupt
  split
  · exact s.sameLoops_modifyOccupation _
  · exact .refl s

theorem sameLoops_engineGap (h : Head) (m : Nat) : s.sameLoops (s.engineGap h m) := by
  unfold State.engineGap
  split
  · exact s.sameLoops_modifyOccupation _
  · exact .refl s

theorem sameLoops_countCorrupt (h : Head) (r : Receiver) : s.sameLoops (s.countCorrupt h r) :=
  (s.sameLoops_setChannel h _).trans (sameLoops_engineCorrupt _ h)

theorem sameLoops_framingError (h : Head) : s.sameLoops (s.framingError h) := by
  unfold State.framingError
  dsimp only
  split
  · exact s.sameLoops_setChannel h _
  · exact s.sameLoops_countCorrupt h _

end State

/-! ## Operations of the Revision Engine -/

namespace State

variable (s : State)

theorem keepsLoops_revise (b : Bool) : s.keepsLoops (State.revise b s) :=
  .of_sameRecords (s.sameRecords_revise b) (fun ho => ho.of_loops (State.loops_revise b s))
    (fun hm => hm.revise b) fun hs => hs.sound.revise b

/-- An owner queues items: a DRIFT_APPLY for no OPEN loop (R113, R134). -/
theorem keepsLoops_queueAll (is : List RevItem)
    (hi : s.orderly → ∀ k l, ⟨.driftApply, k⟩ ∈ is → Table.get s.loops k = some l →
      l.state ≠ .opened) : s.keepsLoops (s.queueAll is) :=
  .of_sameRecords (State.sameRecords_queueAll is s) (oneOpenLoop.queueAll is)
    (marksOwed.queueAll is) fun hs => hs.sound.queueAll is (hi hs)

theorem keepsLoops_queueValue (k : Nat) : s.keepsLoops (s.queueItem ⟨.stationValue, k⟩) :=
  s.keepsLoops_queueAll [⟨.stationValue, k⟩] fun _ _ _ hk => nomatch List.mem_singleton.1 hk

variable {s} in
theorem loopsSound.markTideStale (hs : s.loopsSound) (os : List Nat) :
    (s.markTideStale os).loopsSound := by
  obtain ⟨q, f, t, h⟩ := s.markTideStale_redo_frame os
  rw [h]
  exact hs.of_same (Table.project_modifyKeys
    (f := fun o : Occupation => { o with tideStale := true }) (fun _ => rfl) _ os) rfl rfl

theorem keepsLoops_markTideStale (os : List Nat) : s.keepsLoops (s.markTideStale os) :=
  .of_sameRecords (s.sameRecords_markTideStale os)
    (fun ho => ho.of_loops (s.markTideStale_loops os)) (fun hm => hm.markTideStale os)
    fun hs => hs.sound.markTideStale os

end State

/-- A redone record waits for no redo (R141 part 4). -/
theorem Occupation.awaitsRedo_redone (held : List HeldResult) (o : Occupation) :
    (o.redone held).awaitsRedo = false := by
  simp [Occupation.awaitsRedo, Occupation.redone, Occupation.revalue]

/-- The record in flight is no longer tide-stale, and its item is dropped (R141). -/
theorem State.marksOwed.redone {s : State} (h : s.marksOwed) {n : Nat} {held : List HeldResult}
    (hf : s.inFlight.map InFlight.item = some ⟨.tideRedo, n⟩) :
    ({ s with inFlight := none }.modifyOccupation n (Occupation.redone held)).marksOwed := by
  intro i hi
  have hcalls : i ≠ ⟨.tideRedo, n⟩ ∧ s.calls i := by
    obtain ⟨kind, x⟩ := i
    cases kind
    case tideRedo =>
      obtain ⟨o, ho, haw⟩ := Table.mem_project.1 hi
      obtain ⟨hx, hm⟩ | ⟨-, o', -, rfl⟩ := Table.mem_modify (t := s.occupations) ho
      · exact ⟨fun he => hx (congrArg RevItem.target he), Table.mem_project.2 ⟨o, hm, haw⟩⟩
      · rw [Occupation.awaitsRedo_redone] at haw
        cases haw
    all_goals exact ⟨nofun, hi⟩
  refine .inl ((h i hcalls.2).resolve_right ?_)
  rw [hf, Option.some.injEq]
  exact hcalls.1.symm

namespace State

variable (s : State)

/-- A TIDE_REDO completes: the applied loops that rest on its occupation are CLOSING (R141). -/
theorem keepsLoops_completeRedo {n : Nat} (held : List HeldResult)
    (hf : s.inFlight.map InFlight.item = some ⟨.tideRedo, n⟩) :
    s.keepsLoops (s.completeRedo n held) := by
  cases ho : Table.get s.occupations n with
  | none =>
    rw [State.completeRedo, ho]
    refine .of_sameRecords (s.sameRecords_inFlight none) id (fun hm i hi => ?_) fun hs => hs.sound
    refine .inl ((hm i hi).resolve_right fun he => ?_)
    rw [hf] at he
    cases he
    obtain ⟨o, ho', -⟩ := Table.mem_project.1 (show (n, true) ∈ Table.project _ s.occupations from hi)
    exact Table.not_mem_of_get_none ho o ho'
  | some o =>
    rw [State.completeRedo_of_get ho]
    refine .trans (.of_sameRecords ((s.sameRecords_inFlight none).trans
      (State.sameRecords_modifyOccupation _ n)) id (fun hm => hm.redone hf) fun hs => ?_)
      ((keepsLoops_queueAll _ _ fun _ k l hk hl => ?_).trans (keepsLoops_queueValue _ o.station))
    · exact hs.sound.of_same (Table.project_modify (f := Occupation.redone held) (fun _ => rfl)
        s.occupations n) rfl rfl
    · obtain ⟨k', hk', he⟩ := List.mem_map.1 hk
      cases he
      rintro hopen
      simpa [hopen] using ((State.mem_restingLoops (s := s) hl).1 hk').1

theorem keepsLoops_redoResult (target step : Nat) (v : TideValue) :
    s.keepsLoops (s.redoResult target step v) := by
  unfold State.redoResult
  split
  · next o held k ks hf =>
    have hitem : s.inFlight.map InFlight.item = some ⟨.tideRedo, o⟩ := by rw [hf]; rfl
    split
    · dsimp only
      split
      · exact (s.keepsLoops_completeRedo _ hitem).trans (keepsLoops_revise _ _)
      · have hheld (held' : List HeldResult) (ks : List Nat) :
            s.sameLoops { s with inFlight := some (.tideRedo o held' ks) } :=
          { sameLoops.refl s with inFlight := hitem.symm }
        exact ((hheld _ _).trans (sameLoops_requestRedoStep _)).keeps
          ((s.sameRecords_inFlight _).trans (sameRecords_requestRedoStep _)).keeps
    · exact .refl s
  · exact .refl s

end State

end Sys2Proof.Machine
end

section
/-! The operations of the Drift Unit keep one OPEN loop on each head, the marks' items and the sound Loop
Table (R112 to R120, R125 to R130). -/

namespace Sys2Proof.Machine

/-! ## An entry freed -/

/-- Record `m` as it leaves the loop: only an opener loses its anchor, and only a member or the closer its
drift loop (R126, R127). -/
structure Loop.leaves (l : Loop) (m : Nat) (o o' : Occupation) : Prop where
  belonging : o'.belonging = o.belonging
  anchors : m ≠ l.opener → o'.anchorsLoop = o.anchorsLoop
  drift : m ∉ l.members → l.closer ≠ some m → o'.driftLoop = o.driftLoop

theorem Loop.leaves_withdraw (l : Loop) (m : Nat) (o : Occupation) : l.leaves m o (l.withdraw m o) where
  belonging := by
    have hunanchored (x : Occupation) : x.unanchored.belonging = x.belonging := by
      unfold Occupation.unanchored
      split <;> rfl
    have hunclosed (x : Occupation) :
        (if l.closer = some m then x.unclosed else x).belonging = x.belonging := by
      split <;> rfl
    have hunmembered : (if m ∈ l.members then o.unmembered else o).belonging = o.belonging := by
      split <;> rfl
    unfold Loop.withdraw
    dsimp only
    split
    · rw [hunanchored, hunclosed, hunmembered]
    · rw [hunclosed, hunmembered]
  anchors hm := by
    unfold Loop.withdraw
    rw [if_neg hm]
    split <;> split <;> rfl
  drift hm hc := l.driftLoop_withdraw hm hc o

theorem Loop.leaves_freeze (l : Loop) (m : Nat) (o : Occupation) : l.leaves m o (l.freeze m o) where
  belonging := by
    unfold Loop.freeze
    dsimp only
    split <;> split <;> rfl
  anchors hm := by
    unfold Loop.freeze
    rw [if_neg hm]
    split <;> rfl
  drift hm hc := by
    unfold Loop.freeze
    rw [if_neg (not_or.2 ⟨hm, hc⟩)]
    dsimp only
    split <;> rfl

/-- The records that leave loop `k` go on serving the others. -/
theorem State.loopsSound.freed {s t : State} (hs : s.loopsSound) {k : Nat} {l : Loop}
    (hl : Table.get s.loops k = some l) {f : Nat → Occupation → Occupation}
    (hocc : ∀ m, Table.get t.occupations m = (Table.get s.occupations m).map (f m))
    (hf : ∀ m o, l.leaves m o (f m o))
    (hloops : ∀ j, Table.get t.loops j = if j = k then none else Table.get s.loops j)
    (hg : t.calGen = s.calGen) : t.loopsSound := by
  refine loopsSound_iff.2 ⟨fun j x hj => ?_, (loopsSound_iff.1 hs).2.of_kept (fun m o hm _ => ?_) hg⟩
  · rw [hloops] at hj
    split at hj
    · cases hj
    next hjk =>
    refine (hs.holds hj).of_kept (fun m _ o hm _ => ?_) fun _ => by rw [hg]
    obtain ⟨hopener, hcloser, hmember, -⟩ := (hs.holds hl).role hm
    have hother {y : Option Nat} (hy : y = some j) : y ≠ some k := by
      rw [hy, ne_eq, Option.some.injEq]
      exact hjk
    refine ⟨f m o, by rw [hocc, hm, Option.map_some], (hf m o).belonging, fun ha => ?_, fun hd => ?_⟩
    · exact ((hf m o).anchors fun hm => hother ha (hopener hm).1).trans ha
    · exact ((hf m o).drift (fun hm => hother hd (hmember hm))
        fun hc => hother hd (hcloser hc).1).trans hd
  · rw [hocc] at hm
    obtain ⟨o', ho', rfl⟩ := Option.map_eq_some_iff.1 hm
    exact ⟨o', ho', (hf m o').belonging.symm⟩

/-! ## Abandonment -/

theorem Occupation.awaitsRedo_unanchored (o : Occupation) : o.unanchored.awaitsRedo = o.awaitsRedo := by
  unfold Occupation.unanchored
  split <;> rfl

theorem State.awaitsRedo_withdrawTerms (s : State) (l : Loop) :
    Table.project Occupation.awaitsRedo (s.withdrawTerms l).occupations
      = Table.project Occupation.awaitsRedo s.occupations := by
  have hopener (t : Table Occupation) :
      Table.project Occupation.awaitsRedo (Table.modify t l.opener Occupation.unanchored)
        = Table.project Occupation.awaitsRedo t :=
    Table.project_modify Occupation.awaitsRedo_unanchored _ _
  have hmembers :
      Table.project Occupation.awaitsRedo (Table.modifyKeys s.occupations l.members Occupation.unmembered)
        = Table.project Occupation.awaitsRedo s.occupations :=
    Table.project_modifyKeys (f := Occupation.unmembered) (fun _ => rfl) _ _
  unfold State.withdrawTerms
  dsimp only
  split
  · next c _ =>
    exact (hopener _).trans ((Table.project_modify (f := Occupation.unclosed) (fun _ => rfl) _ c).trans
      hmembers)
  · exact (hopener _).trans hmembers

theorem State.calls_of_calls_queueAll {j : RevItem} (is : List RevItem) :
    ∀ {s : State}, (s.queueAll is).calls j → j ∈ is ∨ s.calls j := by
  induction is with
  | nil => exact .inr
  | cons i is ih =>
    intro s h
    refine (ih h).elim (fun hm => .inl (List.mem_cons_of_mem _ hm)) fun h => ?_
    refine (State.calls_of_calls_queueItem h).imp_left ?_
    rintro rfl
    exact List.mem_cons_self

/-- No other item than the loop's application is dropped (R126 part 4). -/
theorem State.owes_dropApply {s : State} {k : Nat} {i : RevItem} (h : s.owes i)
    (hi : i ≠ ⟨.driftApply, k⟩) : (s.dropApply k).owes i := by
  rw [State.owes, State.dropApply_eq]
  refine h.imp (fun hm => List.mem_filter.2 ⟨hm, by simpa using hi⟩) fun hf => ?_
  dsimp only
  rw [if_neg, hf]
  intro ha
  unfold State.applying at ha
  split at ha
  · next hfl =>
    cases ha
    rw [hfl] at hf
    exact hi (Option.some.inj hf).symm
  · cases ha

namespace State

variable (s : State)

/-- The application of an abandoned loop is dropped with the loop that calls for it (R126). -/
theorem keepsLoops_abandon (k : Nat) : s.keepsLoops (s.abandon k) := by
  cases hl : Table.get s.loops k with
  | none =>
    rw [State.abandon_of_free hl]
    exact .refl s
  | some l =>
    obtain ⟨oc, lo, q, f, t, st, hframe⟩ := s.abandon_frame k
    refine .of_sameRecords (s.sameRecords_abandon k) (fun ho => ho.of_filter (p := fun e => e.1 != k) ?_)
      (fun hm => ?_) fun hs => ?_
    · obtain ⟨oc, hw⟩ := s.withdrawTerms_frame l
      rw [State.abandon, hl]
      dsimp only
      rw [State.loops_queueStationsOf, State.dropApply_eq, hw]
      rfl
    · generalize hu : (s.withdrawTerms l).dropApply k = u
      have hcalls (i : RevItem) : u.calls i ↔ s.calls i := by
        obtain ⟨oc, hw⟩ := s.withdrawTerms_frame l
        refine State.calls_congr ?_ (fun j => ?_) ?_ i
        · rw [← hu, State.occupations_dropApply, State.awaitsRedo_withdrawTerms]
        · rw [← hu, State.dropApply_eq, hw]
        · rw [← hu, State.dropApply_eq, hw]
      have howes {i : RevItem} (h : s.owes i) (hi : i ≠ ⟨.driftApply, k⟩) : u.owes i := by
        obtain ⟨oc, hw⟩ := s.withdrawTerms_frame l
        rw [← hu]
        refine State.owes_dropApply ?_ hi
        rw [hw]
        exact h
      rw [State.abandon, hl]
      dsimp only
      rw [hu, State.queueStationsOf]
      generalize List.map _ _ = is
      intro i hi
      have hne : i ≠ ⟨.driftApply, k⟩ := by
        rintro rfl
        simp [State.calls, Table.get_del] at hi
      have hi' : (u.queueAll is).calls i := by
        obtain ⟨kind, x⟩ := i
        cases kind
        case driftApply =>
          simp only [State.calls, Table.get_del] at hi
          split at hi
          · cases hi
          · exact hi
        all_goals exact hi
      change (u.queueAll is).owes i
      obtain hmem | hc := State.calls_of_calls_queueAll is hi'
      · exact .inl ((State.mem_revQueue_queueAll is).2 (.inl hmem))
      · exact State.owes_queueAll is (howes (hm i ((hcalls i).1 hc)) hne)
    · exact hs.sound.freed hl (State.get_occupations_abandon hl) (Loop.leaves_withdraw l)
        (s.get_loops_abandon k) (by rw [hframe])

theorem keepsLoops_abandonAll (ks : List Nat) : ∀ s : State, s.keepsLoops (s.abandonAll ks) := by
  induction ks with
  | nil => exact .refl
  | cons k ks ih => exact fun s => (s.keepsLoops_abandon k).trans (ih _)

/-- A released loop is applied: nothing waits for it (R127). -/
theorem keepsLoops_release {k : Nat} {l : Loop} (hl : Table.get s.loops k = some l) :
    s.keepsLoops (s.release k l) := by
  have hredo : Table.project Occupation.awaitsRedo (s.release k l).occupations
      = Table.project Occupation.awaitsRedo s.occupations :=
    (Table.project_modify (f := Occupation.releasedOpener) (fun _ => rfl) _ _).trans
      (Table.project_modifyKeys (f := Occupation.frozen) (fun _ => rfl) _ _)
  have hloops (j : Nat) : Table.get (s.release k l).loops j
      = if j = k then none else Table.get s.loops j := Table.get_del _ _ _
  refine .of_sameRecords (s.sameRecords_release k l)
    (fun ho => ho.of_filter (p := fun e => e.1 != k) rfl) (fun hm i hi => ?_)
    fun hs => hs.sound.freed hl (s.get_occupations_release k l) (Loop.leaves_freeze l) hloops rfl
  refine hm i ?_
  obtain ⟨kind, x⟩ := i
  cases kind
  case tideRedo => simpa only [State.calls, hredo] using hi
  case driftApply =>
    simp only [State.calls, hloops] at hi
    split at hi
    · cases hi
    · exact hi
  case stationValue => exact hi

/-! ## Members leave -/

theorem item_removeMember (k n : Nat) :
    (s.removeMember k n).inFlight.map InFlight.item = s.inFlight.map InFlight.item := by
  unfold State.removeMember
  split
  · rfl
  · dsimp only
    split
    · next hf =>
      split
      · rw [hf]
        rfl
      · rfl
    · rfl

theorem loops_removeMember (k n : Nat) :
    (s.removeMember k n).loops = s.loops
      ∨ (s.removeMember k n).loops = Table.modify s.loops k (Loop.without n) := by
  unfold State.removeMember
  split
  · exact .inl rfl
  · dsimp only
    split
    · split
      · exact .inr rfl
      · exact .inr rfl
    · exact .inr rfl

/-- A member leaves a loop's list (R130). -/
theorem keepsLoops_removeMember (k n : Nat) : s.keepsLoops (s.removeMember k n) := by
  have hitem := s.item_removeMember k n
  have hget := s.get_loops_removeMember k n
  refine .of_sameRecords (s.sameRecords_removeMember k n) (fun ho => ?_) (fun hm => ?_) fun hs => ?_
  · obtain h | h := s.loops_removeMember k n
    · exact ho.of_loops h
    · exact ho.of_modify h fun l hl => ⟨hl, rfl⟩
  · obtain ⟨l, f, h⟩ := s.removeMember_frame k n
    have howes (i : RevItem) (hi : s.owes i) : (s.removeMember k n).owes i := by
      rw [State.owes, hitem, h]
      exact hi
    refine hm.of_calls (fun i hi => .inl ?_) fun i _ => howes i
    refine (State.calls_congr (by rw [h]) (fun j => ?_) (by rw [h]) i).1 hi
    rw [hget]
    split
    · rw [Option.map_map]
      rfl
    · rfl
  · obtain ⟨lo, f, h⟩ := s.removeMember_frame k n
    refine hs.sound.of_occupations (by rw [h]) (by rw [h]) fun j l hl => ?_
    rw [hget] at hl
    split at hl
    · obtain ⟨l', hl', rfl⟩ := Option.map_eq_some_iff.1 hl
      exact (hs.sound.holds hl').without n
    · exact hs.sound.holds hl

theorem keepsLoops_unlisted (n : Nat) (o : Occupation) : s.keepsLoops (s.unlisted n o) := by
  unfold State.unlisted
  split
  · exact s.keepsLoops_removeMember _ n
  · exact .refl s

theorem keepsLoops_resolveRoles (n : Nat) (o : Occupation) : s.keepsLoops (s.resolveRoles n o) := by
  rw [State.resolveRoles_eq]
  exact (s.keepsLoops_unlisted n o).trans (keepsLoops_abandonAll _ _)

theorem keepsLoops_leaveLoops (ns : List Nat) :
    ∀ s : State, s.keepsLoops (ns.foldl State.leaveLoop s) := by
  induction ns with
  | nil => exact .refl
  | cons n ns ih =>
    refine fun s => .trans ?_ (ih (s.leaveLoop n))
    unfold State.leaveLoop
    split
    · exact s.keepsLoops_removeMember _ n
    · exact .refl s

theorem keepsLoops_detached (slot : Nat) (chain : List Nat) :
    s.keepsLoops (s.detached slot chain) :=
  (keepsLoops_abandonAll _ s).trans (keepsLoops_leaveLoops chain _)

end State

/-! ## The handover -/

namespace State.marksOwed

variable {s t : State} (h : s.marksOwed)

include h

/-- Nothing new is called for, and the items stay. -/
theorem of_fewer (hc : ∀ i, t.calls i → s.calls i) (hq : t.revQueue = s.revQueue)
    (hf : t.inFlight = s.inFlight) : t.marksOwed :=
  h.of_calls (fun i hi => .inl (hc i hi)) fun i _ hi => by rwa [State.owes, hq, hf]

theorem startLoop (n : Nat) (o : Occupation) (a : Bool) : (s.startLoop n o a).marksOwed := by
  cases hf : Table.firstFree s.loops 32 with
  | none =>
    rw [State.startLoop_of_full hf]
    exact h
  | some k =>
    rw [State.startLoop_of_free hf]
    refine h.of_fewer (fun i hi => ?_) rfl rfl
    obtain ⟨kind, x⟩ := i
    cases kind
    case tideRedo =>
      have hanchoring (o : Occupation) : (o.anchoring k a).awaitsRedo = o.awaitsRedo := by
        cases a <;> rfl
      rwa [State.calls, State.modifyOccupation_occupations, Table.project_modify hanchoring] at hi
    case driftApply =>
      simp only [State.calls, State.modifyOccupation_loops, Table.get_put] at hi
      split at hi
      · cases hi
      · exact hi
    case stationValue => exact hi

/-- A record takes a drift role in a loop that keeps its state. -/
theorem drifting (k n : Nat) {f : Loop → Loop}
    (hf : ∀ l, (f l).state = l.state := by exact fun _ => rfl) :
    ((s.modifyLoop k f).modifyOccupation n fun o => { o with driftLoop := some k }).marksOwed := by
  refine h.of_fewer (fun i hi => (State.calls_congr ?_ (fun j => ?_) ?_ i).1 hi) rfl rfl
  · exact Table.project_modify (f := fun o : Occupation => { o with driftLoop := some k })
      (fun _ => rfl) _ _
  · rw [State.modifyOccupation_loops, State.modifyLoop_loops, Table.get_modify]
    split
    · rw [Option.map_map, show Loop.state ∘ f = Loop.state from funext hf]
    · rfl
  · rfl

theorem closing (k n : Nat) : (s.closing k n).marksOwed :=
  (h.drifting k n).queueItem _

theorem joinLoop (k : Nat) (l : Loop) (n : Nat) : (s.joinLoop k l n).marksOwed := by
  unfold State.joinLoop
  split
  · exact h.drifting k n
  · exact h

theorem handOver (n : Nat) : (s.handOver n).marksOwed := by
  unfold State.handOver
  split
  · exact h
  · split
    · split
      · rw [State.closeLoop_eq]
        exact (h.closing _ n).startLoop n _ false
      · exact h.joinLoop _ _ n
    · split
      · exact h.startLoop n _ true
      · exact h

end State.marksOwed

end Sys2Proof.Machine
end

section
/-! The Occupation Engines keep one OPEN loop on each head, the marks' items and the sound Loop Table: an
occupation fails or closes, and a closed one is handed over (R63 to R65, R115). -/

namespace Sys2Proof.Machine

/-! ## The record a session holds -/

/-- An orderly part's session holds an OPEN record of its head (R44). -/
theorem State.orderly.session {s : State} (hs : s.orderly) {h : Head} {w : Session}
    (hw : (s.engines.get h).session? = some w) :
    ∃ o, Table.get s.occupations w.occupation = some o ∧ o.state = .opened ∧ o.head = h := by
  obtain ⟨-, -, hholds⟩ | ⟨-, -, hidle⟩ := hs.engines hs.vdd
  · have hh := hholds h
    simp only [State.engineHolds, hw] at hh
    obtain ⟨⟨o, ho, hopen, hhead, -⟩, -⟩ := hh
    exact ⟨o, ho, hopen, hhead⟩
  · rw [hidle h] at hw
    cases hw

/-- An OPEN record ends: no loop names it (R114). -/
theorem State.loopsSound.ended {s t : State} (hs : s.loopsSound) {n : Nat} {o : Occupation}
    {f : Occupation → Occupation} (ho : Table.get s.occupations n = some o) (hopen : o.state = .opened)
    (hf : (f o).state ≠ .opened) (hocc : t.occupations = Table.modify s.occupations n f)
    (hl : t.loops = s.loops) (hg : t.calGen = s.calGen) : t.loopsSound := by
  refine loopsSound_iff.2 ⟨fun k l hk => ?_, (loopsSound_iff.1 hs).2.of_kept (fun m x hm hx => ?_) hg⟩
  · rw [hl] at hk
    refine (hs.holds hk).of_kept (fun m hmem x hm _ => ⟨x, ?_, x.servesAs_refl k⟩) fun _ => by rw [hg]
    rw [hocc, Table.get_modify, if_neg, hm]
    rintro rfl
    exact nomatch (((hs.holds hk).role ho).occupant hmem).symm.trans hopen
  · rw [hocc, Table.get_modify] at hm
    split at hm
    · next hmn =>
      rw [hmn, ho, Option.map_some] at hm
      cases hm
      exact absurd hx hf
    · exact ⟨x, hm, rfl⟩

namespace State

variable (s : State)

/-- A FAILED record is called for by no mark (R65, R133). -/
theorem keepsLoops_failOccupation (h : Head) (c : FailCause) :
    s.keepsLoops (s.failOccupation h c) := by
  have hrecords := s.keepsRecords_failOccupation h c
  revert hrecords
  unfold State.failOccupation
  split
  · exact fun _ => .refl s
  · next w hw =>
    obtain ⟨t, ht⟩ := State.withdraw_frame
      (s.modifyOccupation w.occupation fun o => { o with state := .failed c }) (.head h)
    rw [ht]
    intro hrecords
    refine ⟨hrecords, rfl, rfl, fun ho => ho.of_loops rfl,
      fun hm => hm.of_fewer (fun i hi => ?_) rfl rfl, fun hs => ?_⟩
    · obtain ⟨kind, x⟩ := i
      cases kind
      case tideRedo =>
        obtain ⟨o, ho, haw⟩ := Table.mem_project.1 hi
        obtain ⟨-, hm⟩ | ⟨-, o', -, rfl⟩ := Table.mem_modify (t := s.occupations)
          (f := fun o => { o with state := .failed c }) ho
        · exact Table.mem_project.2 ⟨o, hm, haw⟩
        · simp [Occupation.awaitsRedo] at haw
      all_goals exact hi
    · obtain ⟨o, ho, hopen, -⟩ := hs.session hw
      exact hs.sound.ended (f := fun o => { o with state := .failed c }) ho hopen nofun rfl rfl rfl

/-! ## The close -/

/-- The record written CLOSED and, tide-stale, its redo queued (R63 part 1, R64). -/
def recordClosed (n : Nat) (o : Occupation) (g : Integration) (grade : Grade) : State :=
  let closed := s.modifyOccupation n (Occupation.close g grade (s.staleAtClose o))
  if s.staleAtClose o then closed.queueItem ⟨.tideRedo, n⟩ else closed

variable (n : Nat) (o : Occupation) (g : Integration) (grade : Grade)

theorem recordClosed_frame : ∃ q, s.recordClosed n o g grade = { s with
    occupations := Table.modify s.occupations n (Occupation.close g grade (s.staleAtClose o))
    revQueue := q } := by
  unfold State.recordClosed
  dsimp only
  split
  · exact ⟨_, rfl⟩
  · exact ⟨_, rfl⟩

theorem loops_recordClosed : (s.recordClosed n o g grade).loops = s.loops
    ∧ (s.recordClosed n o g grade).occupations
      = Table.modify s.occupations n (Occupation.close g grade (s.staleAtClose o))
    ∧ (s.recordClosed n o g grade).calGen = s.calGen := by
  obtain ⟨q, hq⟩ := s.recordClosed_frame n o g grade
  rw [hq]
  exact ⟨rfl, rfl, rfl⟩

variable {s}

theorem marksOwed.recordClosed (hm : s.marksOwed) : (s.recordClosed n o g grade).marksOwed := by
  have howes {i : RevItem} (hi : s.owes i) : (s.recordClosed n o g grade).owes i := by
    unfold State.recordClosed
    dsimp only
    split
    · exact State.owes_queueItem.2 (.inr hi)
    · exact hi
  refine hm.of_calls (fun i hi => ?_) fun i _ => howes
  have hcalls : ∀ q, ({ s with
      occupations := Table.modify s.occupations n (Occupation.close g grade (s.staleAtClose o))
      revQueue := q } : State).calls i →
        s.calls i ∨ (s.staleAtClose o = true ∧ i = ⟨.tideRedo, n⟩) := by
    intro q hi
    obtain ⟨kind, x⟩ := i
    cases kind
    case tideRedo =>
      obtain ⟨y, hy, haw⟩ := Table.mem_project.1 hi
      obtain ⟨-, hy⟩ | ⟨hx, y', -, rfl⟩ := Table.mem_modify (t := s.occupations)
        (f := Occupation.close g grade (s.staleAtClose o)) hy
      · exact .inl (Table.mem_project.2 ⟨y, hy, haw⟩)
      · rw [← show x = n from hx]
        exact .inr ⟨by simpa [Occupation.awaitsRedo, Occupation.close, Occupation.revalue] using haw,
          rfl⟩
    all_goals exact .inl hi
  obtain ⟨q, hq⟩ := s.recordClosed_frame n o g grade
  rw [hq] at hi
  refine (hcalls q hi).imp_right ?_
  rintro ⟨hstale, rfl⟩
  unfold State.recordClosed
  dsimp only
  rw [if_pos hstale]
  exact State.owes_queueItem.2 (.inl rfl)

variable {n o}

/-- The record just closed plays no role in a loop and is handed over (R63, R115). -/
theorem loopsSound.handed (hs : s.loopsSound) (hwf : Table.wf s.loops)
    (ho : Table.get s.occupations n = some o) (hopen : o.state = .opened) :
    (s.handed n o g grade).loopsSound := by
  have hcurrent := (loopsSound_iff.1 hs).2 n o ho hopen
  obtain ⟨hloops, hocc, hgen⟩ := s.loops_recordClosed n o g grade
  have hclosed := hs.ended ho hopen OccState.noConfusion hocc hloops hgen
  have hself := Table.get_modify_self (f := Occupation.close g grade (s.staleAtClose o)) ho
  rw [← hocc] at hself
  rw [← hgen] at hcurrent
  have hhanded := hclosed.handOver (hloops ▸ hwf) hself rfl rfl rfl hcurrent
  exact hhanded.queueItem (i := ⟨.stationValue, o.station⟩) nofun

variable (s)

/-- The state of a close before the Revision Engine goes on (R63). -/
def shut (h : Head) (w : Session) (o : Occupation) : State :=
  ((s.handed w.occupation o g grade).setNotice (.occEnded h)).setEngine h .idle

theorem closeOccupation_cases (h : Head) : s.closeOccupation h = s
    ∨ ∃ w g grade o, (s.engines.get h).session? = some w
      ∧ Table.get s.occupations w.occupation = some o
      ∧ s.closeOccupation h = State.revise s.revisionBusy (s.shut g grade h w o) := by
  unfold State.closeOccupation
  split
  · next w g e grade heng =>
    split
    · next o ho => exact .inr ⟨w, g, grade, o, by rw [heng]; rfl, ho, rfl⟩
    · exact .inl rfl
  · exact .inl rfl

theorem keepsLoops_closeOccupation (h : Head) : s.keepsLoops (s.closeOccupation h) := by
  obtain hsame | ⟨w, g, grade, o, hw, ho, hclose⟩ := s.closeOccupation_cases h
  · rw [hsame]
    exact .refl s
  have hsupply : (s.closeOccupation h).vdd = s.vdd
      ∧ (s.closeOccupation h).backupValid = s.backupValid := by
    obtain ⟨oc, l, q, f, t, st, n, e, hframe⟩ := s.closeOccupation_frame h
    rw [hframe]
    exact ⟨rfl, rfl⟩
  refine ⟨s.keepsRecords_closeOccupation h, hsupply.1, hsupply.2, fun hone => ?_, fun hm => ?_,
    fun hs => ?_⟩
  · rw [hclose]
    refine oneOpenLoop.of_loops (s := s.handed w.occupation o g grade) ?_
      (State.loops_revise _ (s.shut g grade h w o))
    exact ((hone.of_loops (s.loops_recordClosed w.occupation o g grade).1).handOver _).queueItem _
  · have hhanded := ((hm.recordClosed w.occupation o g grade).handOver w.occupation).queueItem
      ⟨.stationValue, o.station⟩
    rw [hclose]
    exact marksOwed.revise (s := s.shut g grade h w o) hhanded _
  · obtain ⟨o', ho', hopen, -⟩ := hs.session hw
    rw [ho] at ho'
    cases ho'
    rw [hclose]
    exact loopsSound.revise (s := s.shut g grade h w o)
      (hs.sound.handed g grade hs.loops_wf ho hopen) _

/-! ## The engines' operations -/

theorem keepsLoops_closeIfReady (h : Head) : s.keepsLoops (s.closeIfReady h) := by
  unfold State.closeIfReady
  split
  · exact (s.keepsLoops_closeOccupation h).ite
  · exact .refl s

theorem keepsLoops_setEngine {h : Head} {e : Engine}
    (he : e.session? = (s.engines.get h).session?) : s.keepsLoops (s.setEngine h e) :=
  (s.sameLoops_setEngine h e).keeps (s.sameRecords_setEngine he).keeps

theorem keepsLoops_endIntegration (h : Head) (d : Ending) : s.keepsLoops (s.endIntegration h d) := by
  unfold State.endIntegration
  split
  · next heng =>
    split
    · exact s.keepsLoops_failOccupation h _
    · exact (s.keepsLoops_setEngine (by rw [heng]; rfl)).trans (keepsLoops_closeIfReady _ h)
  · exact .refl s

theorem keepsLoops_targetReached (h : Head) : s.keepsLoops (s.targetReached h) := by
  unfold State.targetReached
  split
  · exact (s.keepsLoops_endIntegration h _).ite
  · exact .refl s

theorem keepsLoops_stopIntegration (h : Head) : s.keepsLoops (s.stopIntegration h) := by
  unfold State.stopIntegration
  split
  · split
    · exact s.keepsLoops_failOccupation h _
    · exact s.keepsLoops_endIntegration h _
  · exact .refl s

theorem keepsLoops_capIntegration (h : Head) : s.keepsLoops (s.capIntegration h) := by
  unfold State.capIntegration
  split
  · split
    · exact s.keepsLoops_failOccupation h _
    · exact s.keepsLoops_endIntegration h _
  · exact .refl s

theorem keepsLoops_engineSample (h : Head) (x : Sample) : s.keepsLoops (s.engineSample h x) := by
  unfold State.engineSample
  split
  · next heng =>
    split
    · exact s.keepsLoops_failOccupation h _
    · exact (s.keepsLoops_setEngine (by rw [heng]; rfl)).trans
        ((sameLoops_settleReached _ h).keeps (sameRecords_settleReached _ h).keeps)
  · next w g heng =>
    split
    · exact s.keepsLoops_failOccupation h _
    · split
      · exact ((s.sameLoops_integrateSample h w g x).keeps
          (s.sameRecords_integrateSample heng x).keeps).trans (keepsLoops_targetReached _ h)
      · exact (s.sameLoops_modifyOccupation _).keeps (s.sameRecords_modifyOccupation _).keeps
  · exact .refl s
  · exact .refl s

theorem keepsLoops_countCorrupt (h : Head) (r : Receiver) : s.keepsLoops (s.countCorrupt h r) :=
  (s.sameLoops_countCorrupt h r).keeps (s.sameRecords_countCorrupt h r).keeps

theorem keepsLoops_setChannel (h : Head) (c : Channel) : s.keepsLoops (s.setChannel h c) :=
  (s.sameLoops_setChannel h c).keeps (s.sameRecords_setChannel h c).keeps

theorem keepsLoops_checkFrame (h : Head) (frame : List Byte) :
    s.keepsLoops (s.checkFrame h frame) := by
  unfold State.checkFrame
  split
  · exact (s.keepsLoops_setChannel h _).trans
      (((sameLoops_engineGap _ h _).keeps (sameRecords_engineGap _ h _).keeps).trans
        (keepsLoops_engineSample _ h _))
  · exact s.keepsLoops_countCorrupt h _

theorem keepsLoops_receiveCharacter (h : Head) (b : Byte) :
    s.keepsLoops (s.receiveCharacter h b) := by
  unfold State.receiveCharacter
  dsimp only
  split
  · exact (s.keepsLoops_setChannel h _).trans (keepsLoops_checkFrame _ h _)
  · exact s.keepsLoops_setChannel h _

theorem keepsLoops_placeOwed (h : Head) : s.keepsLoops (s.placeOwed h) :=
  (s.sameLoops_placeOwed h).keeps (s.sameRecords_placeOwed h).keeps

theorem keepsLoops_engineResult (h : Head) (target step : Nat) (v : TideValue) :
    s.keepsLoops (s.engineResult h target step v) := by
  unfold State.engineResult
  split
  · split
    · exact ((s.sameLoops_modifyOccupation _).keeps (s.sameRecords_modifyOccupation _).keeps).trans
        ((keepsLoops_setEngine _ (Engine.session?_withOwed _ _)).trans
          ((keepsLoops_placeOwed _ h).trans (keepsLoops_closeIfReady _ h)))
    · exact s.keepsLoops_placeOwed h
  · exact .refl s

theorem keepsLoops_tide (t : TideEngine) : s.keepsLoops { s with tide := t } :=
  (s.sameLoops_tide t).keeps (s.sameRecords_tide t).keeps

theorem keepsLoops_startEvaluation : s.keepsLoops s.startEvaluation :=
  s.sameLoops_startEvaluation.keeps s.sameRecords_startEvaluation.keeps

theorem keepsLoops_completeEvaluation : s.keepsLoops s.completeEvaluation := by
  unfold State.completeEvaluation
  split
  · exact .refl s
  · dsimp only
    split
    · exact (s.keepsLoops_tide _).trans (keepsLoops_startEvaluation _)
    · refine .trans ?_ (keepsLoops_startEvaluation _)
      split
      · exact (s.keepsLoops_tide _).trans (keepsLoops_engineResult _ _ _ _ _)
      · exact (s.keepsLoops_tide _).trans (keepsLoops_redoResult _ _ _ _)

end State

end Sys2Proof.Machine
end

section
/-! What requests do to records keeps one OPEN loop on each head, the marks' items and the sound Loop Table:
occupations opened, deleted and included, stations edited and retired, coefficients written (R14, R16, R24,
R50, R67, R68, R109, R171). -/

namespace Sys2Proof.Machine

/-! ## An occupation opened -/

/-- With a valid backup domain up and running, the head of an IDLE engine has no OPEN record (R44). -/
theorem State.orderly.not_opened_of_idle {s : State} (hs : s.orderly) (hup : s.serves) {h : Head}
    (hidle : s.engines.get h = .idle) {n : Nat} {o : Occupation}
    (ho : Table.get s.occupations n = some o) (hh : o.head = h) : o.state ≠ .opened := by
  obtain ⟨hrun, hstart, -⟩ := hup
  simp only [State.running, Bool.and_eq_true, Bool.not_eq_true'] at hrun
  obtain ⟨-, -, hholds⟩ | ⟨-, hlost, -⟩ := hs.engines hs.vdd
  · have hhead := hholds h
    simp only [State.engineHolds, hidle, Engine.session?] at hhead
    exact hhead n o ho hh
  · simp [hstart, hrun.2] at hlost

/-- A head that has neither an OPEN loop nor an OPEN occupation changes its generation (R166). -/
theorem State.loopsSound.applyStaged {s : State} (hs : s.loopsSound) {h : Head}
    (hnone : ∀ n o, Table.get s.occupations n = some o → o.head = h → o.state ≠ .opened) :
    (s.applyStaged h).loopsSound := by
  unfold State.applyStaged
  split
  · next set hset =>
    have hopenLoop : s.openLoop h = none := by
      unfold State.applicable at hset
      split at hset
      · assumption
      · cases hset
    refine loopsSound_iff.2 ⟨fun k l hl => ?_, fun n o ho hopen => ?_⟩
    · refine (hs.holds hl).of_kept (fun m _ o ho _ => ⟨o, ho, o.servesAs_refl k⟩) fun hopen => ?_
      refine PerHead.get_set_other _ _ fun hh => ?_
      exact State.not_open_of_openLoop_none hopenLoop hl hh hopen
    · refine ((loopsSound_iff.1 hs).2 n o ho hopen).trans (PerHead.get_set_other _ _ fun hh => ?_).symm
      exact hnone n o ho hh hopen
  · exact hs

/-- A record is put at a free number, with its head's generation (R50). -/
theorem State.loopsSound.enrolled {s t : State} (hs : s.loopsSound) {n : Nat} {o : Occupation}
    (hfree : Table.get s.occupations n = none) (hcur : o.calGen = s.calGen.get o.head)
    (hocc : t.occupations = Table.put s.occupations n o) (hl : t.loops = s.loops)
    (hg : t.calGen = s.calGen) : t.loopsSound := by
  refine loopsSound_iff.2 ⟨fun k l hk => ?_, fun m x hx hopen => ?_⟩
  · rw [hl] at hk
    refine (hs.holds hk).of_kept (fun m _ x hx _ => ⟨x, ?_, x.servesAs_refl k⟩) fun _ => by rw [hg]
    rw [hocc, Table.get_put, if_neg, hx]
    rintro rfl
    cases hfree.symm.trans hx
  · rw [hocc, Table.get_put] at hx
    rw [hg]
    split at hx
    · cases hx
      exact hcur
    · exact (loopsSound_iff.1 hs).2 m x hx hopen

/-- A chain written marks no station value-stale. -/
theorem Table.valueStale_modify_chain (t : Table Station) (k : Nat) (f : List Nat → List Nat) :
    project Station.valueStale (modify t k fun st => { st with chain := f st.chain })
      = project Station.valueStale t :=
  project_modify (f := fun st : Station => { st with chain := f st.chain }) (fun _ => rfl) t k

namespace State

variable (s : State)

/-- The record put and its number at the end of its station's chain, before the engine is set (R50
parts 1 to 3). -/
def enlisted (q : Opening) : State :=
  { s.applyStaged q.head with
    occupations := Table.put (s.applyStaged q.head).occupations q.number
      (Occupation.fresh q ((s.applyStaged q.head).calGen.get q.head)) }.modifyStation q.slot
        fun st => { st with chain := st.chain ++ [q.number] }

theorem sameLoops_enlisted (q : Opening) : (s.enlisted q).sameLoops (s.openOccupation q) := by
  refine .trans ?_ (sameLoops_loseHead _ q.head)
  exact { sameLoops.refl (s.enlisted q) with }

/-- An OPEN record is called for by no mark (R133). -/
theorem marksOwed.enlisted {s : State} (hm : s.marksOwed) (q : Opening) : (s.enlisted q).marksOwed := by
  obtain ⟨a, g, c, n, ha⟩ := s.applyStaged_frame q.head
  unfold State.enlisted
  rw [ha]
  refine hm.of_fewer (fun i hi => ?_) rfl rfl
  obtain ⟨kind, x⟩ := i
  cases kind
  case tideRedo =>
    obtain ⟨o, ho, haw⟩ := Table.mem_project.1 hi
    obtain he | ho := Table.mem_put (t := s.occupations) ho
    · cases he
      simp [Occupation.awaitsRedo, Occupation.fresh] at haw
    · exact Table.mem_project.2 ⟨o, ho, haw⟩
  case driftApply => exact hi
  case stationValue =>
    rw [State.calls] at hi ⊢
    rwa [State.modifyStation_stations, Table.valueStale_modify_chain _ _ (· ++ [q.number])] at hi

variable {s}

theorem keepsLoops_openOccupation {o : OpenOperands} {q : Opening} (hup : s.serves)
    (hq : s.checkOpening o = .ok q) : s.keepsLoops (s.openOccupation q) := by
  obtain ⟨-, -, -, hidle, -, -, hfree, -⟩ := State.checkOpening_eq_ok hq
  obtain ⟨-, hnone, -⟩ := Table.firstFree_eq_some.1 hfree
  have hrest := s.sameLoops_enlisted q
  obtain ⟨a, g, c, n, ha⟩ := s.applyStaged_frame q.head
  obtain ⟨hvdd, hbackup, hloops⟩ : (s.enlisted q).vdd = s.vdd ∧ (s.enlisted q).backupValid = s.backupValid
      ∧ (s.enlisted q).loops = s.loops := by
    unfold State.enlisted
    rw [ha]
    exact ⟨rfl, rfl, rfl⟩
  refine ⟨State.keepsRecords_openOccupation hup hq, hrest.vdd.trans hvdd,
    hrest.backupValid.trans hbackup, fun ho => ho.of_loops (hrest.loops.trans hloops),
    fun hm => hrest.marksOwed (hm.enlisted q), fun hs => hrest.loopsSound ?_⟩
  have happlied := hs.sound.applyStaged (h := q.head) fun _ _ ho hh =>
    hs.not_opened_of_idle hup hidle ho hh
  exact happlied.enrolled (n := q.number)
    (o := Occupation.fresh q ((s.applyStaged q.head).calGen.get q.head)) (by rw [ha]; exact hnone)
    rfl rfl rfl rfl

/-! ## An occupation deleted -/

variable {n : Nat} {o : Occupation}

/-- The redo in flight alone is dropped (R135). -/
theorem owes_dropInFlight {i : RevItem} (h : s.owes i) (hr : s.redoing = some n)
    (hi : i ≠ ⟨.tideRedo, n⟩) : s.dropInFlight.owes i := by
  rw [State.dropInFlight_eq]
  refine .inl (h.resolve_right fun hf => hi ?_)
  unfold State.redoing at hr
  split at hr
  · next hfl =>
    cases hr
    rw [hfl] at hf
    exact (Option.some.inj hf).symm
  · cases hr

theorem owes_removeItems {i : RevItem} {p : RevItem → Bool} (h : s.owes i) (hi : p i = false) :
    (s.removeItems p).owes i :=
  h.imp_left fun hm => List.mem_filter.2 ⟨hm, by simp [hi]⟩

theorem owes_dropRedo {i : RevItem} (h : s.owes i) (hi : i ≠ ⟨.tideRedo, n⟩) :
    (s.dropRedo n).owes i := by
  have hremoved : (s.removeItems fun i => i == ⟨.tideRedo, n⟩).owes i :=
    owes_removeItems h (by simpa using hi)
  unfold State.dropRedo
  dsimp only
  split
  · next hr => exact owes_dropInFlight hremoved hr hi
  · exact hremoved

theorem keepsLoops_unbound (s : State) (n : Nat) (o : Occupation) :
    s.keepsLoops (s.unbound n o) := by
  unfold State.unbound
  split
  · exact s.keepsLoops_resolveRoles n o
  · exact .refl s

/-- No loop names a record whose roles are resolved (R129). -/
theorem not_mem_occupants_unbound (hs : s.loopsSound) (ho : Table.get s.occupations n = some o) {j : Nat}
    {l : Loop} (hl : Table.get (s.unbound n o).loops j = some l) : n ∉ l.occupants := by
  unfold State.unbound at hl
  split at hl
  · rw [State.get_loops_resolveRoles] at hl
    split at hl
    · cases hl
    next hkept =>
    obtain ⟨l', hl', rfl⟩ := Option.map_eq_some_iff.1 hl
    obtain ⟨hopener, hcloser, hmember, -⟩ := (hs.holds hl').role ho
    rw [State.mem_loopsAbandonedWith] at hkept
    have hroles : n ≠ l'.opener ∧ l'.closer ≠ some n :=
      ⟨fun hn => hkept ⟨l', hl', .inr ⟨(hopener hn).1, hn.symm⟩⟩,
        fun hn => hkept ⟨l', hl', .inl ⟨(hcloser hn).1, hn⟩⟩⟩
    rw [Loop.mem_occupants]
    split
    · exact not_or.2 ⟨hroles.1, not_or.2 ⟨hroles.2, by simp [Loop.without]⟩⟩
    · next hmem =>
      exact not_or.2 ⟨hroles.1, not_or.2 ⟨hroles.2, fun hm =>
        hmem (State.memberLoop_eq_some.2 ⟨hmember hm, l', hl', hm⟩)⟩⟩
  · next hclosed => exact fun hm => hclosed (((hs.holds hl).role ho).occupant hm)

theorem marksOwed.removed (hm : s.marksOwed) : (s.removed n o).marksOwed := by
  replace hm := (s.keepsLoops_unbound n o).marks hm
  unfold State.removed
  generalize s.unbound n o = u at hm ⊢
  obtain ⟨f, t, hd⟩ := u.dropRedo_frame n
  intro i hi
  have hcalls : i ≠ ⟨.tideRedo, n⟩ ∧ u.calls i := by
    rw [State.freeOccupation, hd] at hi
    obtain ⟨kind, x⟩ := i
    cases kind
    case tideRedo =>
      obtain ⟨y, hy, haw⟩ := Table.mem_project.1 hi
      obtain ⟨hy, hx⟩ := Table.mem_del.1 hy
      exact ⟨fun he => hx (congrArg RevItem.target he), Table.mem_project.2 ⟨y, hy, haw⟩⟩
    case driftApply => exact ⟨nofun, hi⟩
    case stationValue =>
      rw [State.calls, State.modifyStation_stations,
        Table.valueStale_modify_chain _ _ (List.filter (· != n))] at hi
      exact ⟨nofun, hi⟩
  exact owes_dropRedo (hm i hcalls.2) hcalls.1

theorem loops_removed (s : State) (n : Nat) (o : Occupation) :
    (s.removed n o).loops = (s.unbound n o).loops ∧ (s.removed n o).calGen = (s.unbound n o).calGen
      ∧ (s.removed n o).occupations = Table.del (s.unbound n o).occupations n
      ∧ (s.removed n o).vdd = s.vdd ∧ (s.removed n o).backupValid = s.backupValid := by
  obtain ⟨f, t, hd⟩ := (s.unbound n o).dropRedo_frame n
  obtain ⟨oc, l, q, f', t', st, hu⟩ := s.unbound_frame n o
  rw [State.removed, State.freeOccupation, hd, hu]
  exact ⟨rfl, rfl, rfl, rfl, rfl⟩

theorem loopsSound.removed (hs : s.orderly) (ho : Table.get s.occupations n = some o) :
    (s.removed n o).loopsSound := by
  have hu := (s.keepsLoops_unbound n o).sound hs
  obtain ⟨hloops, hgen, hocc, -⟩ := s.loops_removed n o
  have hget (m : Nat) : Table.get (s.removed n o).occupations m
      = if m = n then none else Table.get (s.unbound n o).occupations m := by
    rw [hocc, Table.get_del]
  refine loopsSound_iff.2 ⟨fun j l hl => ?_, (loopsSound_iff.1 hu).2.of_kept (fun m x hm _ => ?_) hgen⟩
  · rw [hloops] at hl
    refine (hu.holds hl).of_kept (fun m hmem x hx _ => ⟨x, ?_, x.servesAs_refl j⟩) fun _ => by rw [hgen]
    rw [hget, if_neg, hx]
    rintro rfl
    exact not_mem_occupants_unbound hs.sound ho hl hmem
  · rw [hget] at hm
    split at hm
    · cases hm
    · exact ⟨x, hm, rfl⟩

theorem keepsLoops_removed (ho : Table.get s.occupations n = some o) (hn : o.state ≠ .opened) :
    s.keepsLoops (s.removed n o) := by
  have hsame := (s.sameRecords_unbound n o).trans ((s.unbound n o).sameRecords_dropRedo n)
  obtain ⟨o', ho', hp⟩ := hsame.symm_occupation ho
  have hfree := State.keepsRecords_freeOccupation _ ho' fun hop =>
    hn ((Occupation.isOpen_of_place hp).1 hop)
  rw [show o'.station = o.station from congrArg Place.station hp] at hfree
  obtain ⟨hloops, -, -, hvdd, hbackup⟩ := s.loops_removed n o
  exact ⟨hsame.keeps.trans hfree, hvdd, hbackup,
    fun hone => ((s.keepsLoops_unbound n o).oneOpen hone).of_loops hloops,
    marksOwed.removed, fun hs => loopsSound.removed hs ho⟩

theorem keepsLoops_delete (ho : Table.get s.occupations n = some o) (hn : o.state ≠ .opened) :
    s.keepsLoops (s.delete n o) := by
  rw [State.delete_eq]
  refine .trans ?_ (keepsLoops_revise _ _)
  split
  · exact (keepsLoops_removed ho hn).trans (keepsLoops_queueValue _ _)
  · exact keepsLoops_removed ho hn

/-! ## A station retired -/

variable {slot : Nat} {st : Station}

/-- Detached, no loop names a record of the station's chain: an opener or closer stands at its loop's base,
and members have left (R24 parts 1 and 2). -/
theorem not_mem_occupants_detached (hs : s.orderly) (hst : Table.get s.stations slot = some st) {j : Nat}
    {l : Loop} (hl : Table.get (s.detached slot st.chain).loops j = some l) {m : Nat}
    (hm : m ∈ st.chain) : m ∉ l.occupants := by
  have hd := (s.keepsLoops_detached slot st.chain).sound hs
  have hbase : l.base ≠ slot :=
    base_of_get_loops_retire (s := s) (chain := st.chain) (by rw [State.loops_retire, hl])
  obtain ⟨-, -, -, hchain⟩ := hs.chains.1 slot st hst
  obtain ⟨o, ho, hat⟩ := hchain m hm
  have hsame : s.sameRecords (s.detached slot st.chain) :=
    (State.sameRecords_abandonAll _ s).trans (State.sameRecords_leaveLoops _ _)
  obtain ⟨o', ho', hp⟩ := hsame.symm_occupation ho
  have hat' : o'.station = slot := (congrArg Place.station hp).trans hat
  obtain ⟨hopener, hcloser, -⟩ := (hd.holds hl).role ho'
  rw [Loop.mem_occupants]
  rintro (hn | hn | hn)
  · exact hbase ((hopener hn).2.symm.trans hat')
  · exact hbase ((hcloser hn).2.symm.trans hat')
  · have habandoned := (keepsLoops_abandonAll (s.loopsBasedAt slot) s).sound hs
    obtain ⟨l₁, hl₁⟩ : ∃ l₁, Table.get (s.abandonAll (s.loopsBasedAt slot)).loops j = some l₁ := by
      obtain ⟨l₁, hl₁, -⟩ := State.base_of_leaveLoops st.chain hl
      exact ⟨l₁, hl₁⟩
    have hleft := State.get_loops_leaveLoops st.chain hl₁ fun x hx => by
      obtain ⟨y, hy, -, hdrift⟩ := (habandoned.holds hl₁).members x hx
      rw [hy, Option.bind_some, hdrift]
    rw [State.detached, hleft] at hl
    cases hl
    simp [hm] at hn

theorem owes_disowned {u : State} {chain : List Nat} {i : RevItem} (h : u.owes i)
    (hi : targetsStation slot chain i = false) : (u.disowned slot chain).owes i := by
  have hremoved : (u.removeItems (targetsStation slot chain)).owes i := owes_removeItems h hi
  unfold State.disowned
  dsimp only
  split
  · next hr =>
    cases hredo : (u.removeItems (targetsStation slot chain)).redoing with
    | none => simp [hredo] at hr
    | some x =>
      refine owes_dropInFlight hremoved hredo ?_
      rintro rfl
      have hx : x ∈ chain := by simpa [hredo] using hr
      simp [targetsStation, hx] at hi
  · exact hremoved

theorem marksOwed.vacated {u : State} (hm : u.marksOwed) (slot : Nat) (chain : List Nat) :
    ((u.disowned slot chain).vacated slot chain).marksOwed := by
  obtain ⟨f, t, hd⟩ := u.disowned_frame slot chain
  intro i hi
  have hcalls : targetsStation slot chain i = false ∧ u.calls i := by
    rw [State.vacated, hd] at hi
    obtain ⟨kind, x⟩ := i
    cases kind
    case tideRedo =>
      obtain ⟨y, hy, haw⟩ := Table.mem_project.1 hi
      obtain ⟨hy, hx⟩ := List.mem_filter.1 hy
      exact ⟨by simpa [targetsStation] using hx, Table.mem_project.2 ⟨y, hy, haw⟩⟩
    case driftApply => exact ⟨rfl, hi⟩
    case stationValue =>
      obtain ⟨y, hy, haw⟩ := Table.mem_project.1 hi
      obtain ⟨hy, hx⟩ := Table.mem_del.1 hy
      exact ⟨by simpa [targetsStation] using hx, Table.mem_project.2 ⟨y, hy, haw⟩⟩
  exact owes_disowned (hm i hcalls.2) hcalls.1

theorem keepsLoops_retire (hst : Table.get s.stations slot = some st)
    (hopen : s.chainOpen st.chain = false) : s.keepsLoops (s.retire slot st.chain) := by
  have hdetached := s.keepsLoops_detached slot st.chain
  have hsupply : (s.retire slot st.chain).vdd = s.vdd
      ∧ (s.retire slot st.chain).backupValid = s.backupValid := by
    obtain ⟨q, f, t, sts, n, h⟩ := s.retire_frame slot st.chain
    rw [h]
    exact ⟨rfl, rfl⟩
  refine ⟨State.keepsRecords_retire hst hopen, hsupply.1, hsupply.2,
    fun hone => (hdetached.oneOpen hone).of_loops (s.loops_retire slot st.chain), fun hm => ?_,
    fun hs => ?_⟩
  · rw [State.retire_eq]
    exact ((hdetached.marks hm).vacated slot st.chain).revise _
  · rw [State.retire_eq]
    refine loopsSound.revise ?_ _
    have hd := hdetached.sound hs
    have hnot {j : Nat} {l : Loop} (hl : Table.get (s.detached slot st.chain).loops j = some l) {m : Nat}
        (hm : m ∈ st.chain) : m ∉ l.occupants := not_mem_occupants_detached hs hst hl hm
    generalize s.detached slot st.chain = u at hd hnot ⊢
    obtain ⟨f, t, hdis⟩ := u.disowned_frame slot st.chain
    rw [State.vacated, hdis]
    have hget (m : Nat) := Table.get_filterKeys u.occupations (fun x => !decide (x ∈ st.chain)) m
    refine loopsSound_iff.2 ⟨fun j l hl => ?_, (loopsSound_iff.1 hd).2.of_kept (fun m x hm _ => ?_) rfl⟩
    · refine (hd.holds hl).of_kept (fun m hmem x hx _ => ⟨x, ?_, x.servesAs_refl j⟩) fun _ => rfl
      refine (hget m).trans ?_
      rw [if_pos, hx]
      simpa using fun hm => hnot hl hm hmem
    · have hm' := (hget m).symm.trans hm
      split at hm'
      · exact ⟨x, hm', rfl⟩
      · cases hm'

/-! ## Stations declared and edited, the survey cleared -/

/-- Nothing is called for where the stores are empty. -/
theorem marksOwed_of_empty {t : State} (ho : t.occupations = []) (hl : t.loops = [])
    (hst : t.stations = []) : t.marksOwed := by
  intro i hi
  obtain ⟨kind, x⟩ := i
  cases kind <;> simp [State.calls, ho, hl, hst, Table.project] at hi

theorem loopsSound_of_empty {t : State} (ho : t.occupations = []) (hl : t.loops = []) :
    t.loopsSound :=
  loopsSound_iff.2 ⟨fun k l h => by simp [hl] at h, fun n o h => by simp [ho] at h⟩

theorem keepsLoops_clear (part : Partition) (ha : s.anyOpen = false) : s.keepsLoops (s.clear part) := by
  have hframe : (s.clear part).vdd = s.vdd ∧ (s.clear part).backupValid = s.backupValid
      ∧ (s.clear part).occupations = [] ∧ (s.clear part).loops = [] ∧ (s.clear part).stations = [] := by
    unfold State.clear
    rw [State.dropInFlight_eq]
    dsimp only
    split <;> exact ⟨rfl, rfl, rfl, rfl, rfl⟩
  obtain ⟨hvdd, hbackup, hocc, hloops, hst⟩ := hframe
  exact ⟨State.keepsRecords_clear part ha, hvdd, hbackup, fun _ => oneOpenLoop_of_empty hloops,
    fun _ => marksOwed_of_empty hocc hloops hst, fun _ => loopsSound_of_empty hocc hloops⟩

/-- A station is written that is value-stale at most when the one in its slot was. -/
theorem marksOwed.writeStation {k : Nat} {st' : Station} (hm : s.marksOwed) (names : Table Name)
    (hstale : st'.valueStale = true → (k, true) ∈ Table.project Station.valueStale s.stations) :
    ({ s with stations := Table.put s.stations k st', nameIndex := names } : State).marksOwed := by
  refine hm.of_fewer (fun i hi => ?_) rfl rfl
  obtain ⟨kind, x⟩ := i
  cases kind
  case stationValue =>
    obtain ⟨y, hy, hv⟩ := Table.mem_project.1 hi
    obtain he | hy := Table.mem_put (t := s.stations) hy
    · cases he
      exact hstale hv
    · exact Table.mem_project.2 ⟨y, hy, hv⟩
  all_goals exact hi

theorem keepsLoops_applyEdit {e : StationEdit} (hg : Table.get s.stations slot = some st)
    (hr : s.keepsRecords (s.applyEdit slot st e)) : s.keepsLoops (s.applyEdit slot st e) := by
  have hmarks (hm : s.marksOwed) : (s.rewritten slot (st.edited e)).marksOwed :=
    hm.writeStation _ fun hv => Table.mem_project.2 ⟨st, Table.mem_of_get hg, hv⟩
  by_cases hmoved : st.movedBy e = true
  · obtain ⟨q, f, t, sts, n, names, h⟩ := s.applyEdit_of_moved_frame (k := slot) hmoved
    refine ⟨hr, by rw [h], by rw [h], fun ho => ho.of_loops (by rw [h]), fun hm => ?_, fun hs => ?_⟩
    · rw [State.applyEdit_of_moved hmoved]
      exact ((hmarks hm).markTideStale _).revise _
    · rw [State.applyEdit_of_moved hmoved]
      have hwritten : (s.rewritten slot (st.edited e)).loopsSound := hs.sound
      exact (hwritten.markTideStale _).revise _
  · have hsame : s.applyEdit slot st e = s.rewritten slot (st.edited e) := if_neg hmoved
    rw [hsame] at hr ⊢
    exact ⟨hr, rfl, rfl, id, hmarks, fun hs => hs.sound⟩

/-! ## Values and coefficients -/

theorem keepsLoops_setIncluded (s : State) (n : Nat) (o : Occupation) (b : Bool) :
    s.keepsLoops (s.setIncluded n o b) :=
  ((s.sameLoops_modifyOccupation n).keeps (s.sameRecords_modifyOccupation n).keeps).trans
    ((keepsLoops_queueValue _ _).trans (keepsLoops_revise _ _))

theorem keepsLoops_writeEntry (s : State) (i : Nat) (c : Constituent) :
    s.keepsLoops (s.writeEntry i c) := by
  have hwritten : s.keepsLoops
      { s with constituents := s.constituents.set i c, tableGen := s.tableGen + 1 } :=
    sameLoops.keeps { sameLoops.refl s with } (sameRecords.keeps { sameRecords.refl s with })
  exact hwritten.trans ((keepsLoops_markTideStale _ s.allClosed).trans (keepsLoops_revise _ _))

/-- A drift limit written queues CLOSED and SUSPECT loops alone (R171). -/
theorem keepsLoops_writeConstants (s : State) (o : ConstantsOperands) :
    s.keepsLoops (s.writeConstants o) := by
  have hwritten : s.keepsLoops { s with constants := s.constants.carry o } :=
    sameLoops.keeps { sameLoops.refl s with } (sameRecords.keeps { sameRecords.refl s with })
  refine hwritten.trans ((keepsLoops_queueAll _ (s.constantItems o) fun hs k l hk hl => ?_).trans
    (keepsLoops_revise _ _))
  have hk' : k ∈ s.loopsToReapply o := by
    simpa [State.constantItems] using hk
  unfold State.loopsToReapply at hk'
  split at hk'
  · obtain ⟨l', hl', happlied⟩ := (Table.mem_keysWhere hs.loops_wf _ _).1 hk'
    rw [hl] at hl'
    cases hl'
    rintro hopen
    simpa [hopen] using Loop.applied_eq_true.1 happlied
  · cases hk'

end State

end Sys2Proof.Machine
end

section
/-! Every request keeps one OPEN loop on each head, the marks' items and the sound Loop Table. -/

namespace Sys2Proof.Machine

/-! ## What a step keeps -/

/-- From `s` to `t` each head keeps at most one OPEN loop, the marks keep their items, and the Loop Table
stays sound (R113, R119, R133, R136, R148). -/
structure State.keepsLoopWork (s t : State) : Prop where
  oneOpen : s.oneOpenLoop → t.oneOpenLoop
  marks : s.loopsSound → s.marksHaveItems → t.marksHaveItems
  sound : s.recordsIndexed → s.chainsAgree → s.enginesAgree → s.loopsSound → t.loopsSound

section

variable {s t : State}

theorem State.marksHaveItems_of_marksOwed (hv : t.vdd = s.vdd) (hb : t.backupValid = s.backupValid)
    (hm : s.marksOwed → t.marksOwed) (hs : s.marksHaveItems) : t.marksHaveItems := by
  rw [State.marksHaveItems_iff, hv, hb]
  exact fun hvt hbt => hm (State.marksHaveItems_iff.1 hs hvt hbt)

theorem State.keepsLoops.work (h : s.keepsLoops t) (hv : s.vdd = true) : s.keepsLoopWork t where
  oneOpen := h.oneOpen
  marks _ := State.marksHaveItems_of_marksOwed h.vdd h.backupValid h.marks
  sound hi hc he hs := h.sound ⟨hv, hi, hc, he, hs⟩

theorem State.sameLoops.work (h : s.sameLoops t) : s.keepsLoopWork t where
  oneOpen ho := ho.of_loops h.loops
  marks _ := State.marksHaveItems_of_marksOwed h.vdd h.backupValid h.marksOwed
  sound _ _ _ := h.loopsSound

end

/-! ## A request served -/

/-- Serving keeps the loops. -/
def Server.KeepsLoops (serve : Server) : Prop :=
  ∀ (p : List Byte) (s : State), s.serves → s.keepsLoops (serve p s).1

theorem State.vdd_of_running {s : State} (h : s.running = true) : s.vdd = true := by
  simp only [State.running, Bool.and_eq_true] at h
  exact h.1

theorem State.keepsLoops_of_same {s t : State} (hl : s.sameLoops t) (hr : s.sameRecords t) :
    s.keepsLoops t :=
  hl.keeps hr.keeps

theorem State.keepsLoops_taken (s : State) : s.keepsLoops s.taken :=
  State.keepsLoops_of_same { State.sameLoops.refl s with } { State.sameRecords.refl s with }

theorem State.keepsLoops_respond (s : State) (tag : Byte) (a : Answer) :
    s.keepsLoops (s.respond tag a) :=
  State.keepsLoops_of_same (s.sameLoops_respond tag a) (s.sameRecords_respond tag a)

/-- What comes of a request frame keeps the loops where what its owner does does. -/
theorem State.keepsLoopWork_receiveFrame {s : State} {act : State → State}
    (hact : s.serves → s.taken.keepsLoops (act s.taken)) (tag : Byte) (p : List Byte) :
    s.keepsLoopWork (s.receiveFrame tag p act) := by
  unfold State.receiveFrame
  split
  · exact (State.sameLoops.refl s).work
  · next hrun =>
    have hrun' : s.running = true := by simpa using hrun
    refine State.keepsLoops.work ?_ (State.vdd_of_running hrun')
    split
    · exact State.keepsLoops_of_same { State.sameLoops.refl s with } { State.sameRecords.refl s with }
    · refine s.keepsLoops_taken.trans ?_
      split
      · exact .refl _
      · next hlink =>
        split
        · exact s.taken.keepsLoops_respond _ _
        · next hup =>
          refine hact ⟨hrun', by simpa using hup, ?_⟩
          cases hl : s.link with
          | working r => exact absurd hl (hlink r)
          | idle => rfl
          | answered f => rfl

theorem State.keepsLoopWork_request {serve : Server} (hs : serve.KeepsLoops) (s : State) (tag : Byte)
    (p : List Byte) : s.keepsLoopWork (s.request tag p serve) :=
  State.keepsLoopWork_receiveFrame (s := s)
    (act := fun s' => (serve p s').1.respond tag (serve p s').2)
    (fun h => (hs p s.taken h).trans (State.keepsLoops_respond _ _ _)) tag p

namespace Server

theorem keepsLoops_fixedForm {n : Nat} {serve : Server} (hs : serve.KeepsLoops) :
    KeepsLoops (fixedForm n serve) := by
  intro p s h
  unfold fixedForm
  split
  · exact hs p s h
  · exact .refl s

theorem keepsLoops_readForm (n : Nat) (answer : List Byte → State → Answer) :
    KeepsLoops (readForm n answer) :=
  keepsLoops_fixedForm fun _ s _ => .refl s

/-! ## The Station Store -/

theorem keepsLoops_declareStation : KeepsLoops serveDeclareStation :=
  keepsLoops_fixedForm fun p s _ => by
    unfold declareStation
    split
    · split
      · exact .refl s
      · next hn =>
        split
        · exact .refl s
        · next hk =>
          obtain ⟨hlt, hfree, -⟩ := Table.firstFree_eq_some.1 hk
          exact ⟨s.keepsRecords_declare hlt hfree rfl (by simpa [Station.fresh] using hn) rfl, rfl, rfl,
            id, fun hm => hm.writeStation _ nofun, fun hs => hs.sound⟩
    · exact .refl s

theorem keepsLoops_editStation : KeepsLoops serveEditStation :=
  keepsLoops_fixedForm fun p s _ => by
    unfold editStation
    split
    · exact .refl s
    · next st hst =>
      obtain ⟨-, hg⟩ := State.checkSlot_eq_ok.1 hst
      split
      · exact .refl s
      · split
        · exact .refl s
        · next hn =>
          split
          · exact .refl s
          · exact State.keepsLoops_applyEdit hg (State.keepsRecords_of_indexed fun hi =>
              State.keepsRecords_applyEdit hi hg (by simpa using hn))

theorem keepsLoops_retireStation : KeepsLoops serveRetireStation :=
  keepsLoops_fixedForm fun p s _ => by
    unfold retireStation
    split
    · exact .refl s
    · next st hst =>
      obtain ⟨-, hg⟩ := State.checkSlot_eq_ok.1 hst
      split
      · exact .refl s
      · next hopen => exact State.keepsLoops_retire hg (by simpa using hopen)

theorem keepsLoops_clearSurvey : KeepsLoops serveClearSurvey :=
  keepsLoops_fixedForm fun p s _ => by
    unfold clearSurvey
    split
    · exact .refl s
    · split
      · exact .refl s
      · next hopen => exact State.keepsLoops_clear _ (by simpa using hopen)

/-! ## Occupations -/

theorem keepsLoops_openOccupation : KeepsLoops serveOpenOccupation :=
  keepsLoops_fixedForm fun p s hs => by
    unfold openOccupation
    split
    · exact .refl s
    · next hq => exact State.keepsLoops_openOccupation hs hq

theorem keepsLoops_onHead {serve : Head → State → State × Answer}
    (hs : ∀ (h : Head) (s : State), s.keepsLoops (serve h s).1) : KeepsLoops (onHead serve) :=
  keepsLoops_fixedForm fun p s _ => by
    split
    · exact .refl s
    · exact hs _ s

theorem keepsLoops_forceIntegrate : KeepsLoops serveForceIntegrate :=
  keepsLoops_onHead fun h s => by
    unfold forceIntegrate
    split
    · exact State.keepsLoops_of_same (s.sameLoops_enterIntegrating h _)
        (s.sameRecords_enterIntegrating h _)
    · exact .refl s

theorem keepsLoops_stopOccupation : KeepsLoops serveStopOccupation :=
  keepsLoops_onHead fun h s => by
    unfold stopOccupation
    split
    · exact s.keepsLoops_stopIntegration h
    · exact .refl s

theorem keepsLoops_cancelOccupation : KeepsLoops serveCancelOccupation :=
  keepsLoops_onHead fun h s => by
    unfold cancelOccupation
    split
    · exact s.keepsLoops_failOccupation h _
    · exact .refl s

theorem keepsLoops_includeRequest (b : Bool) (n : Nat) (s : State) :
    s.keepsLoops (includeRequest b n s).1 := by
  unfold includeRequest
  split
  · exact .refl s
  · split
    · exact s.keepsLoops_setIncluded n _ b
    · exact .refl s

theorem keepsLoops_deleteOccupation : KeepsLoops serveDeleteOccupation :=
  keepsLoops_fixedForm fun p s _ => by
    unfold deleteOccupation
    split
    · exact .refl s
    · next o ho =>
      obtain ⟨-, hg⟩ := State.checkOccupation_eq_ok.1 ho
      split
      · exact .refl s
      · next hopen => exact State.keepsLoops_delete hg hopen

/-! ## Loops -/

theorem keepsLoops_abandonLoop : KeepsLoops serveAbandonLoop :=
  keepsLoops_fixedForm fun p s _ => by
    unfold abandonLoop
    split
    · exact .refl s
    · exact (s.keepsLoops_abandon _).trans (State.keepsLoops_revise _ _)

theorem keepsLoops_releaseLoop : KeepsLoops serveReleaseLoop :=
  keepsLoops_fixedForm fun p s _ => by
    unfold releaseLoop
    split
    · exact .refl s
    · next l hl =>
      obtain ⟨-, hg⟩ := State.checkLoop_eq_ok.1 hl
      split
      · exact s.keepsLoops_release hg
      · exact .refl s

/-! ## Heads, coefficients, clock and link -/

theorem keepsLoops_headReset : KeepsLoops serveHeadReset :=
  keepsLoops_fixedForm fun p s _ => by
    unfold headReset
    split
    · exact .refl s
    · next h _ =>
      exact (s.keepsLoops_setChannel h _).trans ((State.keepsLoops_failOccupation _ h _).trans
        (State.keepsLoops_of_same (State.sameLoops_withdraw _ _) (State.sameRecords_withdraw _ _)))

theorem keepsLoops_writeConstituent : KeepsLoops serveWriteConstituent :=
  keepsLoops_fixedForm fun p s _ => by
    unfold writeConstituent
    dsimp only
    split
    · exact .refl s
    · split
      · exact .refl s
      · exact s.keepsLoops_writeEntry _ _

theorem keepsLoops_setConstants : KeepsLoops serveSetConstants :=
  keepsLoops_fixedForm fun _ s _ => s.keepsLoops_writeConstants _

/-- A request that writes neither records nor loops. -/
theorem keepsLoops_of_same {serve : Server} (hr : serve.KeepsRecords)
    (hl : ∀ p (s : State), s.sameLoops (serve p s).1) : serve.KeepsLoops :=
  fun p s hs => (hl p s).keeps (hr p s hs)

theorem sameLoops_fixedForm {n : Nat} {serve : Server}
    (hs : ∀ p (s : State), s.sameLoops (serve p s).1) (p : List Byte) (s : State) :
    s.sameLoops (fixedForm n serve p s).1 := by
  unfold fixedForm
  split
  · exact hs p s
  · exact .refl s

theorem keepsLoops_stageCalibration : KeepsLoops serveStageCalibration :=
  keepsLoops_of_same keepsRecords_stageCalibration fun p s => by
    unfold serveStageCalibration stageCalibration
    split
    · exact .refl s
    · exact { State.sameLoops.refl s with }

theorem keepsLoops_setTime : KeepsLoops serveSetTime :=
  keepsLoops_of_same keepsRecords_setTime <| sameLoops_fixedForm fun p s => by
    unfold setTime
    split
    · exact .refl s
    · split
      · exact .refl s
      · exact { State.sameLoops.refl s with }

theorem keepsLoops_syncToPulse : KeepsLoops serveSyncToPulse :=
  keepsLoops_of_same keepsRecords_syncToPulse <| sameLoops_fixedForm fun p s => by
    unfold syncToPulse
    split
    · exact .refl s
    · exact { State.sameLoops.refl s with }

theorem keepsLoops_clearNotices : KeepsLoops serveClearNotices :=
  keepsLoops_of_same keepsRecords_clearNotices <| sameLoops_fixedForm fun _ s =>
    { State.sameLoops.refl s with }

theorem keepsLoops_setNoticeMask : KeepsLoops serveSetNoticeMask :=
  keepsLoops_of_same keepsRecords_setNoticeMask <| sameLoops_fixedForm fun _ s =>
    { State.sameLoops.refl s with }

theorem keepsLoops_unknown : KeepsLoops serveUnknown := fun _ s _ => .refl s

end Server

/-! ## Every request -/

namespace State

theorem keepsLoopWork_requestFindNear (s : State) (tag : Byte) (p : List Byte) :
    s.keepsLoopWork (s.requestFindNear tag p) := by
  obtain ⟨l, b, m, q, h⟩ := s.requestFindNear_frame tag p
  rw [h]
  exact sameLoops.work { sameLoops.refl s with }

theorem keepsLoopWork_linkReset (s : State) (tag : Byte) (p : List Byte) :
    s.keepsLoopWork (s.linkReset tag p) := by
  unfold State.linkReset
  split
  · refine sameLoops.work ?_
    split
    · exact .refl s
    · split
      · exact { sameLoops.refl s with }
      · exact { sameLoops.refl s with }
  · exact keepsLoopWork_request (fun _ s' _ => .refl s') s tag p

/-- A good request frame keeps the loops, whatever its code. -/
theorem keepsLoopWork_serveFrame (s : State) (r : Request) : s.keepsLoopWork (s.serveFrame r) := by
  unfold State.serveFrame
  split
  case h_1 => exact keepsLoopWork_request Server.keepsLoops_declareStation _ _ _
  case h_2 => exact keepsLoopWork_request Server.keepsLoops_editStation _ _ _
  case h_5 => exact s.keepsLoopWork_requestFindNear _ _
  case h_6 => exact keepsLoopWork_request Server.keepsLoops_retireStation _ _ _
  case h_7 => exact keepsLoopWork_request Server.keepsLoops_clearSurvey _ _ _
  case h_8 => exact keepsLoopWork_request Server.keepsLoops_openOccupation _ _ _
  case h_9 => exact keepsLoopWork_request Server.keepsLoops_forceIntegrate _ _ _
  case h_10 => exact keepsLoopWork_request Server.keepsLoops_stopOccupation _ _ _
  case h_11 => exact keepsLoopWork_request Server.keepsLoops_cancelOccupation _ _ _
  case h_13 =>
    exact keepsLoopWork_request (Server.keepsLoops_fixedForm fun _ s _ =>
      Server.keepsLoops_includeRequest false _ s) _ _ _
  case h_14 =>
    exact keepsLoopWork_request (Server.keepsLoops_fixedForm fun _ s _ =>
      Server.keepsLoops_includeRequest true _ s) _ _ _
  case h_15 => exact keepsLoopWork_request Server.keepsLoops_deleteOccupation _ _ _
  case h_17 => exact keepsLoopWork_request Server.keepsLoops_abandonLoop _ _ _
  case h_18 => exact keepsLoopWork_request Server.keepsLoops_releaseLoop _ _ _
  case h_20 => exact keepsLoopWork_request Server.keepsLoops_headReset _ _ _
  case h_21 => exact keepsLoopWork_request Server.keepsLoops_stageCalibration _ _ _
  case h_23 => exact keepsLoopWork_request Server.keepsLoops_writeConstituent _ _ _
  case h_25 => exact keepsLoopWork_request Server.keepsLoops_setConstants _ _ _
  case h_26 => exact keepsLoopWork_request Server.keepsLoops_setTime _ _ _
  case h_27 => exact keepsLoopWork_request Server.keepsLoops_syncToPulse _ _ _
  case h_30 => exact keepsLoopWork_request Server.keepsLoops_clearNotices _ _ _
  case h_31 => exact keepsLoopWork_request Server.keepsLoops_setNoticeMask _ _ _
  case h_32 => exact s.keepsLoopWork_linkReset _ _
  case h_33 => exact keepsLoopWork_request Server.keepsLoops_unknown _ _ _
  all_goals exact keepsLoopWork_request (Server.keepsLoops_readForm _ _) _ _ _

end State

end Sys2Proof.Machine
end

section
/-! Every step keeps at most one OPEN loop on each head, the work the marks call for and the sound Loop
Table: the end of a drift application, supply and reset, and each command (R113, R119, R120, R124, R133,
R149). -/

namespace Sys2Proof.Machine

/-! ## The end of a drift application -/

/-- An application leaves its loop CLOSED or SUSPECT (R122). -/
theorem State.appliedRate_state (s : State) (oa ob : Occupation) :
    (s.appliedRate oa ob).2 ≠ .opened ∧ (s.appliedRate oa ob).2 ≠ .closing := by
  unfold State.appliedRate
  obtain ⟨-, h⟩ | ⟨-, -, h⟩ | ⟨-, -, h⟩ := limitRate_cases s.constants.driftLimit oa.mid ob.mid
    (driftRate oa.corrected ob.corrected oa.mid ob.mid)
  all_goals
    rw [h]
    exact ⟨nofun, nofun⟩

/-- The item in flight dropped, the loop applied if its records are at hand (R124; log 18). -/
theorem State.completeApply_cases (s : State) (k : Nat) :
    (s.completeApply k = { s with inFlight := none }
      ∧ ∀ l c, Table.get s.loops k = some l → l.closer = some c →
        Table.get s.occupations l.opener = none ∨ Table.get s.occupations c = none)
    ∨ ∃ l c oa ob, Table.get s.loops k = some l ∧ l.closer = some c
      ∧ s.completeApply k = { s with inFlight := none }.applyLoop k l c oa ob := by
  cases hl : Table.get s.loops k with
  | none =>
    rw [State.completeApply, hl]
    exact .inl ⟨rfl, nofun⟩
  | some l =>
    cases hc : l.closer with
    | none =>
      refine .inl ⟨?_, ?_⟩
      · rw [State.completeApply, hl]
        dsimp only
        rw [hc]
      · rintro _ c ⟨⟩ hc'
        cases hc.symm.trans hc'
    | some c =>
      cases ha : Table.get s.occupations l.opener with
      | none =>
        refine .inl ⟨?_, ?_⟩
        · rw [State.completeApply, hl]
          dsimp only
          rw [hc]
          dsimp only
          rw [ha]
        · rintro _ c ⟨⟩ -
          exact .inl ha
      | some oa =>
        cases hb : Table.get s.occupations c with
        | none =>
          refine .inl ⟨?_, ?_⟩
          · rw [State.completeApply, hl]
            dsimp only
            rw [hc]
            dsimp only
            rw [ha, hb]
          · rintro _ c' ⟨⟩ hc'
            cases hc.symm.trans hc'
            exact .inr hb
        | some ob => exact .inr ⟨l, c, oa, ob, rfl, hc, State.completeApply_of_get hl hc ha hb⟩

/-- The application in flight is dropped from a loop that is no longer CLOSING (R124). -/
theorem State.marksOwed.applied {s t : State} (hm : s.marksOwed) {k : Nat} (hk : s.applying = some k)
    (hq : t.revQueue = s.revQueue)
    (ho : Table.project Occupation.awaitsRedo t.occupations
      = Table.project Occupation.awaitsRedo s.occupations) (hst : t.stations = s.stations)
    (hother : ∀ j, j ≠ k → Table.get t.loops j = Table.get s.loops j)
    (hself : ∀ l, Table.get t.loops k = some l → l.state ≠ .closing) : t.marksOwed := by
  intro i hi
  have hcalls : i ≠ ⟨.driftApply, k⟩ ∧ s.calls i := by
    obtain ⟨kind, x⟩ := i
    cases kind
    case tideRedo => exact ⟨nofun, by rwa [State.calls, ho] at hi⟩
    case driftApply =>
      obtain ⟨l, hl, hc⟩ := Option.map_eq_some_iff.1 hi
      by_cases hx : x = k
      · subst hx
        exact absurd hc (hself l hl)
      · rw [hother x hx] at hl
        exact ⟨fun he => hx (congrArg RevItem.target he), by rw [State.calls, hl, Option.map_some, hc]⟩
    case stationValue => exact ⟨nofun, by rwa [State.calls, hst] at hi⟩
  refine .inl (hq ▸ (hm i hcalls.2).resolve_right fun hf => hcalls.1 ?_)
  unfold State.applying at hk
  split at hk
  · next hfl =>
    cases hk
    rw [hfl] at hf
    exact (Option.some.inj hf).symm
  · cases hk

/-- The loop and the records an application writes (R121 to R123). -/
theorem State.marksOwed.written {s : State} (hm : s.marksOwed) {k : Nat} (hk : s.applying = some k)
    {r : Int} {x : LoopState} (hx : x ≠ .closing) (ns : List Nat) {f : Occupation → Occupation}
    (hf : ∀ o, (f o).awaitsRedo = o.awaitsRedo) :
    ({ s with
      inFlight := none
      loops := Table.modify s.loops k fun l => { l with rate := some r, state := x }
      occupations := Table.modifyKeys s.occupations ns f } : State).marksOwed := by
  have hget (j : Nat) := Table.get_modify s.loops k j fun l => { l with rate := some r, state := x }
  refine hm.applied hk rfl (Table.project_modifyKeys hf _ _) rfl (fun j hj => ?_) fun l hl => ?_
  · exact (hget j).trans (if_neg hj)
  · obtain ⟨l', -, rfl⟩ := Option.map_eq_some_iff.1 (((hget k).trans (if_pos rfl)).symm.trans hl)
    exact hx

namespace State

variable (s : State)

theorem oneOpenLoop.completeApply {s : State} (ho : s.oneOpenLoop) (k : Nat) :
    (s.completeApply k).oneOpenLoop := by
  obtain ⟨h, -⟩ | ⟨l, c, oa, ob, -, -, h⟩ := s.completeApply_cases k
  · rw [h]
    exact ho
  · rw [h]
    exact ho.of_modify (State.loops_applyLoop { s with inFlight := none } k l c oa ob) fun l' hopen =>
      absurd hopen (State.appliedRate_state { s with inFlight := none } oa ob).1

/-- A CLOSING loop has its closer and both records, so it is applied (R113, R120). -/
theorem marksOwed.completeApply {s : State} (hm : s.marksOwed) (hs : s.loopsSound) {k : Nat}
    (hk : s.applying = some k) : (s.completeApply k).marksOwed := by
  obtain ⟨h, hnone⟩ | ⟨l, c, oa, ob, -, -, h⟩ := s.completeApply_cases k
  · rw [h]
    refine hm.applied hk rfl rfl rfl (fun _ _ => rfl) fun l hl hclosing => ?_
    have hsound := hs.holds hl
    obtain ⟨c, hc⟩ : ∃ c, l.closer = some c := by
      refine Option.ne_none_iff_exists'.1 fun hc => ?_
      cases hclosing.symm.trans (hsound.opened.2 hc)
    obtain ⟨oa, ha, -⟩ := hsound.opener
    obtain ⟨ob, hb, -⟩ := hsound.closer c hc
    obtain hn | hn := hnone l c hl hc
    · cases ha.symm.trans hn
    · cases hb.symm.trans hn
  · rw [h]
    exact State.marksOwed.queueAll _ (hm.written hk (s.appliedRate_state oa ob).2 _
      (f := Occupation.drifted (s.appliedRate oa ob).1 oa.mid) fun _ => rfl)

theorem loopsSound.completeApply {s : State} (hs : s.loopsSound) (k : Nat) :
    (s.completeApply k).loopsSound := by
  obtain ⟨h, -⟩ | ⟨l, c, oa, ob, hl, hc, h⟩ := s.completeApply_cases k
  · rw [h]
    exact hs
  · obtain ⟨oc, lo, q, st, n, hframe⟩ := s.completeApply_frame k
    have hgen : (s.completeApply k).calGen = s.calGen := by rw [hframe]
    rw [h] at hgen ⊢
    refine hs.of_roles ?_ hgen fun j l' hl' => ?_
    · rw [State.occupations_applyLoop]
      exact Table.project_modifyKeys (f := Occupation.drifted _ _) (fun _ => rfl) _ _
    · rw [State.loops_applyLoop] at hl'
      replace hl' := (Table.get_modify s.loops k j _).symm.trans hl'
      split at hl'
      · next hj =>
        rw [hj, hl, Option.map_some] at hl'
        cases hl'
        exact hj ▸ (hs.holds hl).applied hc _
          (State.appliedRate_state { s with inFlight := none } oa ob).1
      · exact hs.holds hl'

theorem keepsLoopWork_endApply : s.keepsLoopWork s.endApply := by
  unfold State.endApply
  split
  · next k hk =>
    obtain ⟨oc, lo, q, st, n, hframe⟩ := s.completeApply_frame k
    obtain ⟨q', f, t, st', n', hrevise⟩ := State.revise_frame true (s.completeApply k)
    refine ⟨fun ho => (ho.completeApply k).of_loops (State.loops_revise true _), fun hs => ?_,
      fun _ _ _ hs => (hs.completeApply k).revise true⟩
    exact State.marksHaveItems_of_marksOwed (by rw [hrevise, hframe]) (by rw [hrevise, hframe])
      fun hm => (hm.completeApply hs hk).revise true
  · exact (sameLoops.refl s).work

/-! ## The restart -/

/-- The rebuild scan finds the item of every mark (R149). -/
theorem mem_owedItems {s : State} {i : RevItem} (h : s.calls i) : i ∈ s.owedItems := by
  obtain ⟨kind, x⟩ := i
  unfold State.owedItems
  rw [List.mem_append, List.mem_append]
  cases kind
  case tideRedo =>
    obtain ⟨o, ho, haw⟩ := Table.mem_project.1 h
    simp only [Occupation.awaitsRedo, Bool.and_eq_true] at haw
    exact .inl (.inl (List.mem_map.2 ⟨x, List.mem_map.2
      ⟨(x, o), List.mem_filter.2 ⟨ho, by simp [haw.1, haw.2]⟩, rfl⟩, rfl⟩))
  case driftApply =>
    obtain ⟨l, hl, hc⟩ := Option.map_eq_some_iff.1 h
    exact .inl (.inr (List.mem_map.2 ⟨x, List.mem_map.2
      ⟨(x, l), List.mem_filter.2 ⟨Table.mem_of_get hl, by simp [hc]⟩, rfl⟩, rfl⟩))
  case stationValue =>
    obtain ⟨st, hst, hv⟩ := Table.mem_project.1 h
    exact .inr (List.mem_map.2 ⟨x, List.mem_map.2
      ⟨(x, st), List.mem_filter.2 ⟨hst, hv⟩, rfl⟩, rfl⟩)

/-- After a restart the item of every mark is queued again (R149, R174). -/
theorem marksOwed_restart : s.restart.marksOwed := by
  have hqueued : (s.interrupt.queueAll s.interrupt.owedItems).marksOwed := by
    intro i hi
    refine .inl ((mem_revQueue_queueAll _).2 (.inl ?_))
    exact (calls_of_calls_queueAll _ hi).elim id mem_owedItems
  exact marksOwed.revise (s := { s.interrupt.queueAll s.interrupt.owedItems with
    notices := Notice.restarted.flag }) hqueued false

theorem oneOpenLoop.restart {s : State} (ho : s.oneOpenLoop) : s.restart.oneOpenLoop := by
  have hqueued : (s.interrupt.queueAll s.interrupt.owedItems).oneOpenLoop :=
    oneOpenLoop.queueAll _ (ho.of_loops rfl)
  exact hqueued.of_loops (State.loops_revise false { s.interrupt.queueAll s.interrupt.owedItems with
    notices := Notice.restarted.flag })

/-- A restart leaves CLOSED records as they are, and none OPEN (R174). -/
theorem loopsSound.interrupt {s : State} (hs : s.loopsSound) : s.interrupt.loopsSound := by
  refine loopsSound_iff.2 ⟨fun k l hl => ?_, fun n o ho hopen => ?_⟩
  · refine (hs.holds hl).of_kept (fun m _ o ho hc => ⟨o, ?_, o.servesAs_refl k⟩) fun _ => rfl
    rw [State.get_interrupt, ho, Option.map_some, Occupation.interrupted, if_neg (by simp [hc])]
  · rw [State.get_interrupt] at ho
    obtain ⟨o', -, rfl⟩ := Option.map_eq_some_iff.1 ho
    exact absurd hopen o'.state_interrupted

theorem loopsSound.restart {s : State} (hs : s.loopsSound) (hwf : Table.wf s.loops) :
    s.restart.loopsSound := by
  have hqueued : (s.interrupt.queueAll s.interrupt.owedItems).loopsSound := by
    refine hs.interrupt.queueAll _ fun k l hk hl => ?_
    have hk' : k ∈ Table.keysWhere s.loops fun l => l.state == .closing := by
      simpa [State.owedItems, State.interrupt] using hk
    obtain ⟨l', hl', hclosing⟩ := (Table.mem_keysWhere hwf _ _).1 hk'
    cases hl'.symm.trans hl
    rintro hopen
    simp [hopen] at hclosing
  exact loopsSound.revise (s := { s.interrupt.queueAll s.interrupt.owedItems with
    notices := Notice.restarted.flag }) hqueued false

theorem keepsLoopWork_start : s.keepsLoopWork { s with vdd := true, resetLow := false }.start := by
  unfold State.start
  dsimp only
  split
  · exact ⟨fun ho => oneOpenLoop.restart (s := State.resetMain _) (ho.of_loops rfl),
      fun _ _ => State.marksHaveItems_iff.2 fun _ _ => marksOwed_restart _,
      fun hi _ _ hs => loopsSound.restart (s := State.resetMain _) hs hi.loops_wf⟩
  · next hlost =>
    exact ⟨fun ho => ho.of_loops rfl, fun _ _ _ hb => absurd hb hlost, fun _ _ _ hs => hs⟩

/-! ## Supply and reset -/

theorem keepsLoopWork_of_empty {t : State} (ho : t.occupations = []) (hl : t.loops = [])
    (hst : t.stations = []) : s.keepsLoopWork t :=
  ⟨fun _ => oneOpenLoop_of_empty hl,
    fun _ _ => State.marksHaveItems_iff.2 fun _ _ => marksOwed_of_empty ho hl hst,
    fun _ _ _ _ => loopsSound_of_empty ho hl⟩

theorem keepsLoopWork_rebuildBackup : s.keepsLoopWork s.rebuildBackup :=
  s.keepsLoopWork_of_empty rfl rfl rfl

/-- Without its supply the part owes no work until it starts again (R172). -/
theorem keepsLoopWork_vddFail : s.keepsLoopWork { s.resetMain with vdd := false } :=
  ⟨fun ho => ho.of_loops rfl, fun _ _ => nofun, fun _ _ _ hs => hs⟩

/-! ## The events -/

/-- A walk goes on with the item in flight (R142). -/
theorem sameLoops_tick : s.sameLoops s.tick :=
  { sameLoops.refl s with
    inFlight := by
      simp only [State.tick, State.passMillisecond]
      split
      · next hf =>
        rw [hf]
        rfl
      · rfl }

theorem sameLoops_fetch (n : Nat) : s.sameLoops (s.fetch n) := { sameLoops.refl s with }

theorem sameLoops_acceptPulse : s.sameLoops s.acceptPulse := by
  unfold State.acceptPulse
  dsimp only
  split
  · exact { sameLoops.refl s with }
  · exact { sameLoops.refl s with }

theorem sameLoops_endScan : s.sameLoops s.endScan := by
  unfold State.endScan
  split
  · exact { sameLoops.refl s with }
  · exact .refl s

theorem keepsLoopWork_transfer (mosi : List Byte) : s.keepsLoopWork (s.transfer mosi) := by
  unfold State.transfer
  split
  · exact sameLoops.work { sameLoops.refl s with }
  · split
    · unfold State.requestTransfer
      split
      · exact s.keepsLoopWork_serveFrame _
      · exact sameLoops.work { sameLoops.refl s with }
    · split
      · exact (s.sameLoops_fetch _).work
      · exact sameLoops.work { sameLoops.refl s with }

variable {s}

theorem keepsLoopWork.ite {t : State} {c : Prop} {_ : Decidable c} (h : s.keepsLoopWork t) :
    s.keepsLoopWork (if c then t else s) := by
  split
  · exact h
  · exact (sameLoops.refl s).work

/-- What is done on a running part alone. -/
theorem keepsLoopWork.whenRunning {act : State → State} (h : s.keepsLoopWork (act s)) :
    s.keepsLoopWork (s.whenRunning act) :=
  h.ite

theorem keepsLoops.whenRunning {act : State → State} (h : s.keepsLoops (act s)) :
    s.keepsLoopWork (s.whenRunning act) := by
  unfold State.whenRunning
  split
  · next hrun => exact h.work (State.vdd_of_running hrun)
  · exact (sameLoops.refl s).work

theorem sameLoops.ite {t : State} {c : Prop} {_ : Decidable c} (h : s.sameLoops t) :
    s.sameLoops (if c then t else s) := by
  split
  · exact h
  · exact .refl s

end State

/-- Every event of a line, a unit, time or supply keeps the loops and the revision work. -/
theorem event_keepsLoopWork {c : Instr} (hr : c.request? = none) (s : State) :
    ∃ t, exec c s = .next t ∧ s.keepsLoopWork t := by
  cases c
  case findNearScanEnd => exact ⟨_, rfl, s.sameLoops_endScan.ite.work⟩
  case badRequestFrame => exact ⟨_, rfl, (s.keepsLoopWork_transfer _).whenRunning⟩
  case fetchTransfer => exact ⟨_, rfl, (s.sameLoops_fetch _).work.whenRunning⟩
  case statusTransfer => exact ⟨_, rfl, (s.keepsLoopWork_transfer _).whenRunning⟩
  case headFrame h b => exact ⟨_, rfl, (s.keepsLoops_receiveCharacter h b).whenRunning⟩
  case headLineCharacter h b => exact ⟨_, rfl, (s.keepsLoops_receiveCharacter h b).whenRunning⟩
  case characterFramingError h => exact ⟨_, rfl, (s.sameLoops_framingError h).work.whenRunning⟩
  case frameBrokenOff h => exact ⟨_, rfl, (s.sameLoops_countCorrupt h _).ite.work.whenRunning⟩
  case headTimeout h => exact ⟨_, rfl, (s.sameLoops_loseHead h).work.whenRunning⟩
  case settleCountReached h => exact ⟨_, rfl, (s.sameLoops_settleReached h).work.whenRunning⟩
  case targetReached h => exact ⟨_, rfl, (s.keepsLoops_targetReached h).whenRunning⟩
  case settlingDeadline h => exact ⟨_, rfl, (s.keepsLoops_failOccupation h _).ite.whenRunning⟩
  case capDeadline h => exact ⟨_, rfl, (s.keepsLoops_capIntegration h).ite.whenRunning⟩
  case tideEvaluationComplete => exact ⟨_, rfl, s.keepsLoops_completeEvaluation.whenRunning⟩
  case driftApplyComplete => exact ⟨_, rfl, s.keepsLoopWork_endApply.whenRunning⟩
  case timePulse => exact ⟨_, rfl, s.sameLoops_acceptPulse.ite.work.whenRunning⟩
  case pulseLoss =>
    have hlost : s.sameLoops
        ({ s with pulse := { s.pulse with pulsing := false } }.setNotice .pulseLost) :=
      { State.sameLoops.refl s with }
    exact ⟨_, rfl, hlost.ite.work.whenRunning⟩
  case clockHoldAtMax => exact ⟨_, rfl, State.sameLoops.work { State.sameLoops.refl s with }⟩
  case partStart => exact ⟨_, rfl, s.keepsLoopWork_start⟩
  case backupLostStartup => exact ⟨_, rfl, s.keepsLoopWork_rebuildBackup.ite⟩
  case resetNAssert => exact ⟨_, rfl, State.sameLoops.work { State.sameLoops.refl s with }⟩
  case vddFail => exact ⟨_, rfl, s.keepsLoopWork_vddFail⟩
  case backupDomainLoss => exact ⟨_, rfl, s.keepsLoopWork_of_empty rfl rfl rfl⟩
  all_goals cases hr

/-- Every command keeps the loops and the revision work. -/
theorem exec_keepsLoopWork {c : Instr} {s t : State} (h : exec c s = .next t) : s.keepsLoopWork t := by
  cases hr : c.request? with
  | some r =>
    rw [exec_of_request hr] at h
    cases h
    exact s.keepsLoopWork_serveFrame r
  | none =>
    obtain ⟨t', ht, hk⟩ := event_keepsLoopWork hr s
    rw [ht] at h
    cases h
    exact hk

/-- Every step keeps the loops and the revision work. -/
theorem step_keepsLoopWork {s t : State} (h : step s = .next t) : s.keepsLoopWork t := by
  unfold step at h
  split at h
  · cases h
    exact s.sameLoops_tick.work
  · next c rest _ =>
    have hexec : (s.withPending rest).keepsLoopWork t := exec_keepsLoopWork h
    exact ⟨hexec.oneOpen, hexec.marks, hexec.sound⟩

/-- Settles O57: only the handover opens a loop, on a head that has none OPEN. -/
theorem oneOpenLoopPerHead : Obligations.OneOpenLoopPerHead :=
  fun _ _ ho h => (step_keepsLoopWork h).oneOpen ho

/-- Settles O59: each of the model's commands keeps both invariants, and so does every step. -/
theorem marksKeepTheirItems : Obligations.MarksKeepTheirItems :=
  ⟨fun _ _ hs hm h => (step_keepsLoopWork h).marks hs hm,
    fun _ _ hi hc he hs h => (step_keepsLoopWork h).sound hi hc he hs⟩

end Sys2Proof.Machine
end

section
/-! The Revision Queue holds no item twice (R134): what joins it, leaves it and goes to its tail, and the
operations of the Revision Engine, the Drift Unit and the Occupation Engines. -/

namespace Sys2Proof.Machine

/-! ## Items join, leave and wait on -/

theorem State.revQueue_queueItem (s : State) (i : RevItem) :
    (s.queueItem i).revQueue = if i ∈ s.revQueue then s.revQueue else s.revQueue ++ [i] := by
  obtain ⟨k, n⟩ := i
  cases k <;> rfl

namespace State

/-- An operation that leaves the loops and the revision work leaves the queue. -/
theorem sameLoops.queueDistinct {s t : State} (h : s.sameLoops t) (hq : s.queueDistinct) :
    t.queueDistinct := by
  rwa [State.queueDistinct, h.revQueue]

namespace queueDistinct

variable {s : State} (hq : s.queueDistinct)

include hq

theorem queueItem (i : RevItem) : (s.queueItem i).queueDistinct := by
  rw [State.queueDistinct, revQueue_queueItem]
  split
  · exact hq
  · next hi => exact List.concat_eq_append ▸ List.Nodup.concat hi hq

theorem queueAll (is : List RevItem) : (s.queueAll is).queueDistinct := by
  induction is generalizing s with
  | nil => exact hq
  | cons i is ih => exact ih (hq.queueItem i)

theorem removeItems (p : RevItem → Bool) : (s.removeItems p).queueDistinct :=
  List.Nodup.filter _ hq

theorem dropInFlight : s.dropInFlight.queueDistinct := by
  rw [State.dropInFlight_eq]
  exact hq

/-! ## The Revision Engine -/

/-- Each item taken leaves the queue, or goes from its head to its tail (R136). -/
theorem takeItems (fuel : Nat) : (takeItems fuel s).queueDistinct := by
  have hrest {u : State} {i : RevItem} {rest : List RevItem} (hr : u.revQueue = i :: rest)
      (hu : u.queueDistinct) : i ∉ rest ∧ rest.Nodup := by
    rwa [State.queueDistinct, hr, List.nodup_cons] at hu
  refine takeItems_keeps (P := State.queueDistinct) ?value ?redo ?defer ?apply fuel s hq
  case value =>
    intro u i rest _ hr _ hu
    obtain ⟨st, n, hp⟩ := State.processStation_frame { u with revQueue := rest } i.target
    rw [hp]
    exact (hrest hr hu).2
  case redo =>
    intro u i rest _ hr _ hu
    obtain ⟨f, t, ht⟩ := State.takeRedo_frame { u with revQueue := rest } i.target
    rw [ht]
    exact (hrest hr hu).2
  case defer =>
    intro u i rest _ hr _ hu
    obtain ⟨hi, hn⟩ := hrest hr hu
    exact List.concat_eq_append ▸ List.Nodup.concat hi hn
  case apply => exact fun u i rest _ hr _ hu => (hrest hr hu).2

theorem revise (b : Bool) : (State.revise b s).queueDistinct := by
  obtain ⟨n, h⟩ := s.revise_cases b
  rw [h]
  exact hq.takeItems _

theorem restartRedo (os : List Nat) : (s.restartRedo os).queueDistinct := by
  unfold State.restartRedo
  split
  · split
    · exact hq.dropInFlight.queueItem _
    · exact hq
  · exact hq

theorem markTideStale (os : List Nat) : (s.markTideStale os).queueDistinct :=
  (queueAll (s := { s with
    occupations := Table.modifyKeys s.occupations os fun o => { o with tideStale := true } })
      hq _).restartRedo os

theorem completeRedo (n : Nat) (held : List HeldResult) : (s.completeRedo n held).queueDistinct := by
  unfold State.completeRedo
  split
  · exact hq
  · exact (queueAll (s := { s with inFlight := none }.modifyOccupation n _) hq _).queueItem _

theorem redoResult (target step : Nat) (v : TideValue) :
    (s.redoResult target step v).queueDistinct := by
  unfold State.redoResult
  split
  · split
    · dsimp only
      split
      · exact (hq.completeRedo _ _).revise true
      · exact (sameLoops_requestRedoStep _).queueDistinct hq
    · exact hq
  · exact hq

/-! ## The Drift Unit -/

theorem startLoop (n : Nat) (o : Occupation) (a : Bool) : (s.startLoop n o a).queueDistinct := by
  obtain ⟨oc, l, nt, h⟩ := s.startLoop_frame n o a
  rw [h]
  exact hq

theorem joinLoop (k : Nat) (l : Loop) (n : Nat) : (s.joinLoop k l n).queueDistinct := by
  unfold State.joinLoop
  split
  · exact hq
  · exact hq

theorem closing (k n : Nat) : (s.closing k n).queueDistinct :=
  queueItem (s := (s.modifyLoop k _).modifyOccupation n _) hq _

/-- The four cases of R115: the OPEN loop closed or joined, a loop opened, or nothing. -/
theorem handOver (n : Nat) : (s.handOver n).queueDistinct := by
  unfold State.handOver
  split
  · exact hq
  · split
    · split
      · rw [State.closeLoop_eq]
        exact (hq.closing _ n).startLoop n _ false
      · exact hq.joinLoop _ _ n
    · split
      · exact hq.startLoop n _ true
      · exact hq

/-- The item applied is in flight, and only STATION_VALUE items join (R124). -/
theorem completeApply (k : Nat) : (s.completeApply k).queueDistinct := by
  obtain ⟨h, -⟩ | ⟨l, c, oa, ob, -, -, h⟩ := s.completeApply_cases k
  · rw [h]
    exact hq
  · rw [h]
    exact queueAll (s := { s with inFlight := none, loops := _, occupations := _ }) hq _

theorem endApply : s.endApply.queueDistinct := by
  unfold State.endApply
  split
  · exact (hq.completeApply _).revise true
  · exact hq

theorem withdrawTerms (l : Loop) : (s.withdrawTerms l).queueDistinct := by
  obtain ⟨oc, h⟩ := s.withdrawTerms_frame l
  rw [h]
  exact hq

theorem dropApply (k : Nat) : (s.dropApply k).queueDistinct := by
  rw [State.dropApply_eq]
  exact List.Nodup.filter _ hq

theorem abandon (k : Nat) : (s.abandon k).queueDistinct := by
  unfold State.abandon
  split
  · exact hq
  · next l _ => exact ((hq.withdrawTerms l).dropApply k).queueAll _

theorem abandonAll (ks : List Nat) : (s.abandonAll ks).queueDistinct := by
  induction ks generalizing s with
  | nil => exact hq
  | cons k ks ih => exact ih (hq.abandon k)

/-! ## Records deleted and stations retired -/

theorem unbound (n : Nat) (o : Occupation) : (s.unbound n o).queueDistinct := by
  unfold State.unbound
  split
  · have hunlisted : (s.unlisted n o).queueDistinct := by
      obtain ⟨l, f, h⟩ := s.unlisted_frame n o
      rw [h]
      exact hq
    exact hunlisted.abandonAll _
  · exact hq

theorem dropRedo (n : Nat) : (s.dropRedo n).queueDistinct := by
  obtain ⟨f, t, h⟩ := s.dropRedo_frame n
  rw [h]
  exact hq.removeItems _

theorem delete (n : Nat) (o : Occupation) : (s.delete n o).queueDistinct := by
  have hremoved : (s.removed n o).queueDistinct := (hq.unbound n o).dropRedo n
  rw [State.delete_eq]
  split
  · exact (hremoved.queueItem _).revise _
  · exact hremoved.revise _

theorem retire (slot : Nat) (chain : List Nat) : (s.retire slot chain).queueDistinct := by
  have hdetached : (s.detached slot chain).queueDistinct := by
    obtain ⟨l, f, h⟩ := State.leaveLoops_frame chain (s.abandonAll (s.loopsBasedAt slot))
    rw [State.detached, h]
    exact hq.abandonAll _
  rw [State.retire_eq]
  refine revise ?_ _
  obtain ⟨f, t, h⟩ := (s.detached slot chain).disowned_frame slot chain
  rw [h]
  exact hdetached.removeItems _

/-! ## The Occupation Engines -/

theorem failOccupation (h : Head) (c : FailCause) : (s.failOccupation h c).queueDistinct := by
  obtain ⟨oc, t, n, e, hf⟩ := s.failOccupation_frame h c
  rw [hf]
  exact hq

/-- The redo of a record tide-stale at its close joins the queue (R64). -/
theorem recordClosed (n : Nat) (o : Occupation) (g : Integration) (grade : Grade) :
    (s.recordClosed n o g grade).queueDistinct := by
  unfold State.recordClosed
  dsimp only
  split
  · exact queueItem (s := s.modifyOccupation n _) hq _
  · exact hq

/-- The items of a close: the record's redo, the loop's application, the station's value (R63). -/
theorem closeOccupation (h : Head) : (s.closeOccupation h).queueDistinct := by
  obtain hsame | ⟨w, g, grade, o, -, -, hclose⟩ := s.closeOccupation_cases h
  · rw [hsame]
    exact hq
  · rw [hclose]
    have hhanded : (s.handed w.occupation o g grade).queueDistinct :=
      ((hq.recordClosed w.occupation o g grade).handOver w.occupation).queueItem _
    exact revise (s := s.shut g grade h w o) hhanded _

theorem closeIfReady (h : Head) : (s.closeIfReady h).queueDistinct := by
  unfold State.closeIfReady
  split
  · split
    · exact hq.closeOccupation h
    · exact hq
  · exact hq

theorem endIntegration (h : Head) (d : Ending) : (s.endIntegration h d).queueDistinct := by
  unfold State.endIntegration
  split
  · split
    · exact hq.failOccupation h _
    · exact closeIfReady (s := s.setEngine h _) hq h
  · exact hq

theorem targetReached (h : Head) : (s.targetReached h).queueDistinct := by
  unfold State.targetReached
  split
  · split
    · exact hq.endIntegration h _
    · exact hq
  · exact hq

theorem stopIntegration (h : Head) : (s.stopIntegration h).queueDistinct := by
  unfold State.stopIntegration
  split
  · split
    · exact hq.failOccupation h _
    · exact hq.endIntegration h _
  · exact hq

theorem capIntegration (h : Head) : (s.capIntegration h).queueDistinct := by
  unfold State.capIntegration
  split
  · split
    · exact hq.failOccupation h _
    · exact hq.endIntegration h _
  · exact hq

theorem engineSample (h : Head) (x : Sample) : (s.engineSample h x).queueDistinct := by
  unfold State.engineSample
  split
  · split
    · exact hq.failOccupation h _
    · exact (sameLoops_settleReached (s.setEngine h _) h).queueDistinct hq
  · next w g _ =>
    split
    · exact hq.failOccupation h _
    · split
      · exact ((s.sameLoops_integrateSample h w g x).queueDistinct hq).targetReached h
      · exact hq
  · exact hq
  · exact hq

theorem engineResult (h : Head) (target step : Nat) (v : TideValue) :
    (s.engineResult h target step v).queueDistinct := by
  unfold State.engineResult
  split
  · split
    · exact (((s.sameLoops_modifyOccupation _).trans ((sameLoops_setEngine _ h _).trans
        (sameLoops_placeOwed _ h))).queueDistinct hq).closeIfReady h
    · exact (s.sameLoops_placeOwed h).queueDistinct hq
  · exact hq

theorem completeEvaluation : s.completeEvaluation.queueDistinct := by
  unfold State.completeEvaluation
  split
  · exact hq
  · dsimp only
    split
    · exact (sameLoops_startEvaluation _).queueDistinct hq
    · have htide (t : TideEngine) : { s with tide := t }.queueDistinct := hq
      refine (sameLoops_startEvaluation _).queueDistinct ?_
      split
      · exact (htide _).engineResult _ _ _ _
      · exact (htide _).redoResult _ _ _

/-! ## Characters on the head lines -/

theorem receiveCharacter (h : Head) (b : Byte) : (s.receiveCharacter h b).queueDistinct := by
  have hframe {u : State} (hu : u.queueDistinct) (frame : List Byte) :
      (u.checkFrame h frame).queueDistinct := by
    unfold State.checkFrame
    split
    · exact ((sameLoops_engineGap (u.setChannel h _) h _).queueDistinct hu).engineSample h _
    · exact (u.sameLoops_countCorrupt h _).queueDistinct hu
  unfold State.receiveCharacter
  dsimp only
  split
  · exact hframe (u := s.setChannel h _) hq _
  · exact hq

end queueDistinct

end State

end Sys2Proof.Machine
end

section
/-! Every command, and so every step, keeps the Revision Queue free of a second item of one kind for one
record (R134). -/

namespace Sys2Proof.Machine

/-! ## What requests do to records, coefficients and heads -/

namespace State.queueDistinct

variable {s : State} (hq : s.queueDistinct)

include hq

/-- An opening queues nothing (R50). -/
theorem openOccupation (q : Opening) : (s.openOccupation q).queueDistinct := by
  refine (s.sameLoops_enlisted q).queueDistinct ?_
  obtain ⟨a, g, c, n, ha⟩ := s.applyStaged_frame q.head
  rw [State.enlisted, ha]
  exact hq

theorem applyEdit (slot : Nat) (st : Station) (e : StationEdit) :
    (s.applyEdit slot st e).queueDistinct := by
  have hwritten : (s.rewritten slot (st.edited e)).queueDistinct := hq
  unfold State.applyEdit
  dsimp only
  split
  · exact (hwritten.markTideStale _).revise _
  · exact hwritten

omit hq in
theorem clear (s : State) (part : Partition) : (s.clear part).queueDistinct := by
  rw [clear_eq]
  exact List.nodup_nil

theorem setIncluded (n : Nat) (o : Occupation) (b : Bool) : (s.setIncluded n o b).queueDistinct :=
  (queueItem (s := s.modifyOccupation n _) hq _).revise _

theorem writeEntry (i : Nat) (c : Constituent) : (s.writeEntry i c).queueDistinct := by
  have hwritten : { s with
      constituents := s.constituents.set i c, tableGen := s.tableGen + 1 }.queueDistinct := hq
  exact (hwritten.markTideStale s.allClosed).revise _

theorem writeConstants (o : ConstantsOperands) : (s.writeConstants o).queueDistinct := by
  have hwritten : { s with constants := s.constants.carry o }.queueDistinct := hq
  exact (hwritten.queueAll (s.constantItems o)).revise _

theorem resetHead (h : Head) : (s.resetHead h).queueDistinct :=
  (sameLoops_withdraw _ _).queueDistinct (failOccupation (s := s.setChannel h .reset) hq h _)

end State.queueDistinct

/-! ## The owners of the requests -/

/-- Serving keeps the queue free of second items. -/
def Server.KeepsQueue (serve : Server) : Prop :=
  ∀ (p : List Byte) (s : State), s.queueDistinct → (serve p s).1.queueDistinct

theorem State.queueDistinct.receiveFrame {s : State} (hq : s.queueDistinct) {act : State → State}
    (hact : (act s.taken).queueDistinct) (tag : Byte) (p : List Byte) :
    (s.receiveFrame tag p act).queueDistinct := by
  obtain h | h | h | h | h := s.receiveFrame_cases tag p act
  case inr.inr.inr.inr =>
    rw [h]
    exact hact
  all_goals
    rw [h]
    exact hq

theorem State.queueDistinct.request {s : State} (hq : s.queueDistinct) {serve : Server}
    (hs : serve.KeepsQueue) (tag : Byte) (p : List Byte) : (s.request tag p serve).queueDistinct :=
  hq.receiveFrame (act := fun s' => (serve p s').1.respond tag (serve p s').2) (hs p s.taken hq) tag p

namespace Server

theorem keepsQueue_fixedForm {n : Nat} {serve : Server} (hs : serve.KeepsQueue) :
    KeepsQueue (fixedForm n serve) := by
  intro p s hq
  unfold fixedForm
  split
  · exact hs p s hq
  · exact hq

theorem keepsQueue_readForm (n : Nat) (answer : List Byte → State → Answer) :
    KeepsQueue (readForm n answer) :=
  keepsQueue_fixedForm fun _ _ hq => hq

theorem keepsQueue_onHead {serve : Head → State → State × Answer}
    (hs : ∀ (h : Head) (s : State), s.queueDistinct → (serve h s).1.queueDistinct) :
    KeepsQueue (onHead serve) :=
  keepsQueue_fixedForm fun p s hq => by
    split
    · exact hq
    · exact hs _ s hq

/-! ### The Station Store -/

theorem keepsQueue_declareStation : KeepsQueue serveDeclareStation :=
  keepsQueue_fixedForm fun p s hq => by
    unfold declareStation
    split
    · split
      · exact hq
      · split
        · exact hq
        · exact hq
    · exact hq

theorem keepsQueue_editStation : KeepsQueue serveEditStation :=
  keepsQueue_fixedForm fun p s hq => by
    unfold editStation
    split
    · exact hq
    · split
      · exact hq
      · split
        · exact hq
        · split
          · exact hq
          · exact hq.applyEdit _ _ _

theorem keepsQueue_retireStation : KeepsQueue serveRetireStation :=
  keepsQueue_fixedForm fun p s hq => by
    unfold retireStation
    split
    · exact hq
    · split
      · exact hq
      · exact hq.retire _ _

theorem keepsQueue_clearSurvey : KeepsQueue serveClearSurvey :=
  keepsQueue_fixedForm fun p s hq => by
    unfold clearSurvey
    split
    · exact hq
    · split
      · exact hq
      · exact .clear s _

/-! ### Occupations -/

theorem keepsQueue_openOccupation : KeepsQueue serveOpenOccupation :=
  keepsQueue_fixedForm fun p s hq => by
    unfold openOccupation
    split
    · exact hq
    · exact hq.openOccupation _

theorem keepsQueue_forceIntegrate : KeepsQueue serveForceIntegrate :=
  keepsQueue_onHead fun h s hq => by
    unfold forceIntegrate
    split
    · exact (s.sameLoops_enterIntegrating h _).queueDistinct hq
    · exact hq

theorem keepsQueue_stopOccupation : KeepsQueue serveStopOccupation :=
  keepsQueue_onHead fun h s hq => by
    unfold stopOccupation
    split
    · exact hq.stopIntegration h
    · exact hq

theorem keepsQueue_cancelOccupation : KeepsQueue serveCancelOccupation :=
  keepsQueue_onHead fun h s hq => by
    unfold cancelOccupation
    split
    · exact hq.failOccupation h _
    · exact hq

theorem keepsQueue_includeRequest (b : Bool) :
    KeepsQueue (fixedForm 2 fun p s => includeRequest b (fieldNat 0 2 p) s) :=
  keepsQueue_fixedForm fun p s hq => by
    unfold includeRequest
    split
    · exact hq
    · split
      · exact hq.setIncluded _ _ b
      · exact hq

theorem keepsQueue_deleteOccupation : KeepsQueue serveDeleteOccupation :=
  keepsQueue_fixedForm fun p s hq => by
    unfold deleteOccupation
    split
    · exact hq
    · split
      · exact hq
      · exact hq.delete _ _

/-! ### Loops -/

theorem keepsQueue_abandonLoop : KeepsQueue serveAbandonLoop :=
  keepsQueue_fixedForm fun p s hq => by
    unfold abandonLoop
    split
    · exact hq
    · exact (hq.abandon _).revise _

theorem keepsQueue_releaseLoop : KeepsQueue serveReleaseLoop :=
  keepsQueue_fixedForm fun p s hq => by
    unfold releaseLoop
    split
    · exact hq
    · split
      · exact hq
      · exact hq

/-! ### Heads, coefficients and clock -/

theorem keepsQueue_headReset : KeepsQueue serveHeadReset :=
  keepsQueue_fixedForm fun p s hq => by
    unfold headReset
    split
    · exact hq
    · exact hq.resetHead _

theorem keepsQueue_stageCalibration : KeepsQueue serveStageCalibration := fun p s hq => by
  unfold serveStageCalibration stageCalibration
  split
  · exact hq
  · exact hq

theorem keepsQueue_writeConstituent : KeepsQueue serveWriteConstituent :=
  keepsQueue_fixedForm fun p s hq => by
    unfold writeConstituent
    dsimp only
    split
    · exact hq
    · split
      · exact hq
      · exact hq.writeEntry _ _

theorem keepsQueue_setConstants : KeepsQueue serveSetConstants :=
  keepsQueue_fixedForm fun _ _ hq => hq.writeConstants _

theorem keepsQueue_setTime : KeepsQueue serveSetTime :=
  keepsQueue_fixedForm fun p s hq => by
    unfold setTime
    split
    · exact hq
    · split
      · exact hq
      · exact hq

theorem keepsQueue_syncToPulse : KeepsQueue serveSyncToPulse :=
  keepsQueue_fixedForm fun p s hq => by
    unfold syncToPulse
    split
    · exact hq
    · exact hq

/-! ### The link's own requests -/

theorem keepsQueue_clearNotices : KeepsQueue serveClearNotices :=
  keepsQueue_fixedForm fun _ _ hq => hq

theorem keepsQueue_setNoticeMask : KeepsQueue serveSetNoticeMask :=
  keepsQueue_fixedForm fun _ _ hq => hq

theorem keepsQueue_unknown : KeepsQueue serveUnknown := fun _ _ hq => hq

end Server

/-! ## Frames and transfers -/

namespace State.queueDistinct

variable {s : State} (hq : s.queueDistinct)

include hq

theorem linkReset (tag : Byte) (p : List Byte) : (s.linkReset tag p).queueDistinct := by
  unfold State.linkReset
  split
  · split
    · exact hq
    · split
      · exact hq
      · exact hq
  · exact hq.request (fun _ _ h => h) tag p

/-- A good request frame keeps the queue free of second items, whatever its code. -/
theorem serveFrame (r : Request) : (s.serveFrame r).queueDistinct := by
  unfold State.serveFrame
  split
  case h_1 => exact hq.request Server.keepsQueue_declareStation _ _
  case h_2 => exact hq.request Server.keepsQueue_editStation _ _
  case h_5 =>
    obtain ⟨l, b, m, q, h⟩ := s.requestFindNear_frame r.tag r.payload
    rw [h]
    exact hq
  case h_6 => exact hq.request Server.keepsQueue_retireStation _ _
  case h_7 => exact hq.request Server.keepsQueue_clearSurvey _ _
  case h_8 => exact hq.request Server.keepsQueue_openOccupation _ _
  case h_9 => exact hq.request Server.keepsQueue_forceIntegrate _ _
  case h_10 => exact hq.request Server.keepsQueue_stopOccupation _ _
  case h_11 => exact hq.request Server.keepsQueue_cancelOccupation _ _
  case h_13 => exact hq.request (Server.keepsQueue_includeRequest false) _ _
  case h_14 => exact hq.request (Server.keepsQueue_includeRequest true) _ _
  case h_15 => exact hq.request Server.keepsQueue_deleteOccupation _ _
  case h_17 => exact hq.request Server.keepsQueue_abandonLoop _ _
  case h_18 => exact hq.request Server.keepsQueue_releaseLoop _ _
  case h_20 => exact hq.request Server.keepsQueue_headReset _ _
  case h_21 => exact hq.request Server.keepsQueue_stageCalibration _ _
  case h_23 => exact hq.request Server.keepsQueue_writeConstituent _ _
  case h_25 => exact hq.request Server.keepsQueue_setConstants _ _
  case h_26 => exact hq.request Server.keepsQueue_setTime _ _
  case h_27 => exact hq.request Server.keepsQueue_syncToPulse _ _
  case h_30 => exact hq.request Server.keepsQueue_clearNotices _ _
  case h_31 => exact hq.request Server.keepsQueue_setNoticeMask _ _
  case h_32 => exact hq.linkReset _ _
  case h_33 => exact hq.request Server.keepsQueue_unknown _ _
  all_goals exact hq.request (Server.keepsQueue_readForm _ _) _ _

theorem transfer (mosi : List Byte) : (s.transfer mosi).queueDistinct := by
  unfold State.transfer
  split
  · exact hq
  · split
    · unfold State.requestTransfer
      split
      · exact hq.serveFrame _
      · exact hq
    · split
      · exact hq
      · exact hq

/-! ## The events -/

/-- What is done on a condition. -/
theorem ite {t : State} {c : Prop} {_ : Decidable c} (ht : t.queueDistinct) :
    (if c then t else s).queueDistinct := by
  split
  · exact ht
  · exact hq

/-- What is done on a running part alone. -/
theorem whenRunning {act : State → State} (hact : (act s).queueDistinct) :
    (s.whenRunning act).queueDistinct :=
  hq.ite hact

/-- The rebuild scan queues no item twice (R149). -/
theorem restart : s.restart.queueDistinct := by
  have hinterrupted : s.interrupt.queueDistinct := hq
  exact revise (s := { s.interrupt.queueAll s.interrupt.owedItems with
    notices := Notice.restarted.flag }) (hinterrupted.queueAll _) false

omit hq in
/-- The start empties the queue (R173). -/
theorem resetMain (s : State) : s.resetMain.queueDistinct := List.nodup_nil

omit hq in
theorem start (s : State) : s.start.queueDistinct := by
  unfold State.start
  dsimp only
  split
  · exact (resetMain s).restart
  · exact resetMain s

theorem rebuildBackup : s.rebuildBackup.queueDistinct := by
  have hloaded : s.loadDefaults.queueDistinct := by
    unfold State.loadDefaults
    split
    · exact hq
    · exact hq
  exact hloaded

end State.queueDistinct

/-- Every event of a line, a unit, time or supply keeps the queue free of second items. -/
theorem event_keepsQueue {c : Instr} (hr : c.request? = none) {s : State} (hq : s.queueDistinct) :
    ∃ t, exec c s = .next t ∧ t.queueDistinct := by
  cases c
  case findNearScanEnd => exact ⟨_, rfl, hq.ite (s.sameLoops_endScan.queueDistinct hq)⟩
  case badRequestFrame => exact ⟨_, rfl, hq.whenRunning (hq.transfer _)⟩
  case fetchTransfer => exact ⟨_, rfl, hq.whenRunning hq⟩
  case statusTransfer => exact ⟨_, rfl, hq.whenRunning (hq.transfer _)⟩
  case headFrame h b => exact ⟨_, rfl, hq.whenRunning (hq.receiveCharacter h b)⟩
  case headLineCharacter h b => exact ⟨_, rfl, hq.whenRunning (hq.receiveCharacter h b)⟩
  case characterFramingError h =>
    exact ⟨_, rfl, hq.whenRunning ((s.sameLoops_framingError h).queueDistinct hq)⟩
  case frameBrokenOff h =>
    exact ⟨_, rfl, hq.whenRunning (hq.ite ((s.sameLoops_countCorrupt h _).queueDistinct hq))⟩
  case headTimeout h => exact ⟨_, rfl, hq.whenRunning ((s.sameLoops_loseHead h).queueDistinct hq)⟩
  case settleCountReached h =>
    exact ⟨_, rfl, hq.whenRunning ((s.sameLoops_settleReached h).queueDistinct hq)⟩
  case targetReached h => exact ⟨_, rfl, hq.whenRunning (hq.targetReached h)⟩
  case settlingDeadline h => exact ⟨_, rfl, hq.whenRunning (hq.ite (hq.failOccupation h _))⟩
  case capDeadline h => exact ⟨_, rfl, hq.whenRunning (hq.ite (hq.capIntegration h))⟩
  case tideEvaluationComplete => exact ⟨_, rfl, hq.whenRunning hq.completeEvaluation⟩
  case driftApplyComplete => exact ⟨_, rfl, hq.whenRunning hq.endApply⟩
  case timePulse =>
    exact ⟨_, rfl, hq.whenRunning (hq.ite (s.sameLoops_acceptPulse.queueDistinct hq))⟩
  case pulseLoss => exact ⟨_, rfl, hq.whenRunning (hq.ite hq)⟩
  case clockHoldAtMax => exact ⟨_, rfl, hq⟩
  case partStart => exact ⟨_, rfl, .start _⟩
  case backupLostStartup => exact ⟨_, rfl, hq.ite hq.rebuildBackup⟩
  case resetNAssert => exact ⟨_, rfl, hq⟩
  case vddFail => exact ⟨_, rfl, .resetMain s⟩
  case backupDomainLoss => exact ⟨_, rfl, .resetMain s⟩
  all_goals cases hr

theorem exec_keepsQueue {c : Instr} {s t : State} (hq : s.queueDistinct) (h : exec c s = .next t) :
    t.queueDistinct := by
  cases hr : c.request? with
  | some r =>
    rw [exec_of_request hr] at h
    cases h
    exact hq.serveFrame r
  | none =>
    obtain ⟨t', ht, hk⟩ := event_keepsQueue hr hq
    rw [ht] at h
    cases h
    exact hk

/-- Settles O54: an item joins only when the queue does not hold it, and items otherwise leave, go from
head to tail, or are all dropped at a start. -/
theorem queueStaysDistinct : Obligations.QueueStaysDistinct := by
  intro s t hq h
  unfold step at h
  split at h
  · cases h
    exact s.sameLoops_tick.queueDistinct hq
  · next rest _ => exact exec_keepsQueue (s := s.withPending rest) hq h

end Sys2Proof.Machine
end

section
/-! What a STATION_VALUE item writes: the state, the adopted value, the spread and the judgement on it
(R145 to R147). -/

namespace Sys2Proof.Machine

variable {os : List Occupation}

/-! ## The station's state -/

theorem stationStateOf_eq_declared : stationStateOf os = .declared ↔ os = [] := by
  unfold stationStateOf
  split
  · next h => simpa using h
  · next h => split <;> simpa using h

theorem stationStateOf_eq_provisional :
    stationStateOf os = .provisional ↔ os ≠ [] ∧ ∃ o ∈ os, o.drift = none := by
  unfold stationStateOf
  split
  · next h => simp_all
  · next h =>
    have hne : os ≠ [] := by simpa using h
    split
    · next hd => simpa [hne] using hd
    · next hd => simpa [hne] using hd

theorem stationStateOf_eq_adopted :
    stationStateOf os = .adopted ↔ os ≠ [] ∧ ∀ o ∈ os, o.drift ≠ none := by
  unfold stationStateOf
  split
  · next h => simp_all
  · next h =>
    have hne : os ≠ [] := by simpa using h
    split
    · next hd => simpa [hne] using hd
    · next hd => simpa [hne, Option.isSome_iff_ne_none] using hd

/-! ## The adopted value -/

theorem weightSum_pos (hne : os ≠ []) (hw : ∀ o ∈ os, 1 ≤ o.weight) : 0 < weightSum os := by
  cases os with
  | nil => exact absurd rfl hne
  | cons o os => exact Nat.add_pos_left (hw o List.mem_cons_self) _

theorem adoptedOf_of_ne_nil (hne : os ≠ []) :
    adoptedOf os = some (roundDiv (weightedSum os) (weightSum os)) :=
  if_neg (by simpa using hne)

/-! ## The spread -/

/-- The fold of R147 finds the largest of the first V and the others. -/
theorem max?_v_eq (v : Int) (os : List Occupation) :
    (v :: os.map Occupation.v).max? = some (largestV v os) := by
  induction os generalizing v with
  | nil => rfl
  | cons o os ih =>
    rw [largestV, ← ih, List.map_cons, List.max?_cons', List.max?_cons', List.foldl_cons,
      max_def_lt]

theorem min?_v_eq (v : Int) (os : List Occupation) :
    (v :: os.map Occupation.v).min? = some (smallestV v os) := by
  induction os generalizing v with
  | nil => rfl
  | cons o os ih =>
    rw [smallestV, ← ih, List.map_cons, List.min?_cons', List.min?_cons', List.foldl_cons,
      min_comm, min_def_lt]

/-- The spread is the largest difference of two values (R147). -/
theorem spreadOf_eq_largest_difference (hne : os ≠ []) :
    ∃ d, spreadOf os = some d ∧ (∀ x ∈ os, ∀ y ∈ os, x.v - y.v ≤ d)
      ∧ ∃ x ∈ os, ∃ y ∈ os, x.v - y.v = d := by
  cases os with
  | nil => exact absurd rfl hne
  | cons o os =>
    obtain ⟨hmax, hle⟩ := List.max?_eq_some_iff.1 (max?_v_eq o.v os)
    obtain ⟨hmin, hge⟩ := List.min?_eq_some_iff.1 (min?_v_eq o.v os)
    rw [← List.map_cons] at hmax hmin
    obtain ⟨x, hx, hxv⟩ := List.mem_map.1 hmax
    obtain ⟨y, hy, hyv⟩ := List.mem_map.1 hmin
    refine ⟨_, rfl, fun a ha b hb => ?_, x, hx, y, hy, by rw [hxv, hyv]⟩
    exact Int.sub_le_sub (hle _ (List.mem_map_of_mem ha)) (hge _ (List.mem_map_of_mem hb))

theorem discordantOf_iff {limit : Nat} {d : Int} (hd : spreadOf os = some d) :
    discordantOf limit os = true ↔ (limit : Int) < d := by
  rw [discordantOf, hd]
  exact decide_eq_true_iff

/-- Settles O32: each field of the processed record is the value its own rule gives. -/
theorem stationValueFormed : Obligations.StationValueFormed := by
  intro st limit os
  refine ⟨stationStateOf_eq_declared, stationStateOf_eq_provisional, stationStateOf_eq_adopted, rfl,
    ?none_contributes, fun hne => ?some_contribute, rfl, rfl, rfl, rfl, rfl, rfl, rfl⟩
  case none_contributes =>
    rintro rfl
    exact ⟨rfl, rfl, rfl, rfl⟩
  case some_contribute =>
    obtain ⟨d, hd, hlargest, hattained⟩ := spreadOf_eq_largest_difference hne
    exact ⟨_, d, adoptedOf_of_ne_nil hne, hd,
      fun hw => roundDiv_near _ (weightSum_pos hne hw), hlargest, hattained, discordantOf_iff hd⟩

end Sys2Proof.Machine
end

section
/-! SET_TIME and SYNC_TO_PULSE, the seconds pulse, its loss, the hold at the largest value, and the
millisecond of an idle step (R152, R153, R155 to R158). -/

namespace Sys2Proof.Machine

/-! ## The requests on time -/

/-- The second and the millisecond of a SET_TIME are read back (R199). -/
theorem fieldNat_setTime {sec ms : Nat} (hsec : sec ≤ 4294967295) (hms : ms < 65536) :
    fieldNat 0 4 (beBytes 4 sec ++ beBytes 2 ms) = sec
      ∧ fieldNat 4 2 (beBytes 4 sec ++ beBytes 2 ms) = ms := by
  refine ⟨fieldNat_beBytes_append (by omega) _, ?_⟩
  simpa using fieldNat_of (n := 2) (cs := []) (length_beBytes 4 sec) (by simpa using hms)

theorem timeBytes_of {sec ms : Nat} (hms : ms ≤ 999) :
    timeBytes (1000 * sec + ms) = beBytes 4 sec ++ beBytes 2 ms := by
  rw [timeBytes, show (1000 * sec + ms) / 1000 = sec by omega,
    show (1000 * sec + ms) % 1000 = ms by omega]

section

variable {s : State} (h : s.serves) (tag : Byte) {sec : Nat} (hsec : sec ≤ 4294967295)
include h hsec

/-- A SET_TIME that is served and answered (R155). -/
theorem exec_setTime {ms : Nat} (hms : ms < 65536) :
    exec (.setTime tag (beBytes 4 sec ++ beBytes 2 ms)) s
      = .next ((setTime sec ms s.taken).1.respond tag (setTime sec ms s.taken).2) := by
  obtain ⟨h1, h2⟩ := fieldNat_setTime hsec hms
  have hr := State.request_fixedForm h (n := 6) (p := beBytes 4 sec ++ beBytes 2 ms) (by simp)
    (by decide) tag fun p s => setTime (fieldNat 0 4 p) (fieldNat 4 2 p) s
  rw [h1, h2] at hr
  exact congrArg _ hr

/-- A SYNC_TO_PULSE that is served and answered (R156). -/
theorem exec_syncToPulse :
    exec (.syncToPulse tag (beBytes 4 sec)) s
      = .next ((syncToPulse sec s.taken).1.respond tag (syncToPulse sec s.taken).2) := by
  have hfield : fieldNat 0 4 (beBytes 4 sec) = sec := by
    simpa using fieldNat_beBytes_append (n := 4) (v := sec) (by omega) []
  have hr := State.request_fixedForm h (n := 4) (p := beBytes 4 sec) (by simp) (by decide) tag
    fun p s => syncToPulse (fieldNat 0 4 p) s
  rw [hfield] at hr
  exact congrArg _ hr

end

/-- A millisecond above 999 is refused before an OPEN occupation is looked for (R155). -/
theorem setTime_of_badField {sec ms : Nat} (hms : 999 < ms) (s : State) :
    setTime sec ms s = (s, refusal .badField) :=
  if_pos hms

theorem setTime_of_busy {sec ms : Nat} (hms : ms ≤ 999) {s : State} (ho : s.anyOpen = true) :
    setTime sec ms s = (s, refusal .busy) := by
  rw [setTime, if_neg (Nat.not_lt.2 hms), if_pos ho]

theorem setTime_of_accepted {sec ms : Nat} (hms : ms ≤ 999) {s : State} (ho : s.anyOpen = false) :
    setTime sec ms s = (s.setTime (1000 * sec + ms),
      done (beBytes 4 sec ++ beBytes 2 ms ++ optionalTime s.clock
        ++ yesNo s.pulse.pendingSet.isSome)) := by
  rw [setTime, if_neg (Nat.not_lt.2 hms), if_neg (by simp [ho]), ← timeBytes_of hms]

theorem syncToPulse_of_busy (sec : Nat) {s : State} (ho : s.anyOpen = true) :
    syncToPulse sec s = (s, refusal .busy) :=
  if_pos ho

theorem syncToPulse_of_accepted (sec : Nat) {s : State} (ho : s.anyOpen = false) :
    syncToPulse sec s = ({ s with pulse := { s.pulse with pendingSet := some sec } },
      done (yesNo s.pulse.pulsing ++ yesNo s.pulse.pendingSet.isSome)) :=
  if_neg (by simp [ho])

/-- Settles O48: the checks of SET_TIME in their order. -/
theorem setTimeSetsTheClock : Obligations.SetTimeSetsTheClock := by
  intro tag sec ms s h hsec hms
  rw [exec_setTime h tag hsec hms]
  refine ⟨fun hbad => ?_, fun hok ho => ?_, fun hok ho => ?_⟩
  · rw [setTime_of_badField hbad]
    rfl
  · rw [setTime_of_busy hok (s := s.taken) ho]
    rfl
  · rw [setTime_of_accepted hok (s := s.taken) ho]
    rfl

/-- Settles O49: the one check of SYNC_TO_PULSE. -/
theorem syncToPulseArms : Obligations.SyncToPulseArms := by
  intro tag sec s h hsec
  rw [exec_syncToPulse h tag hsec]
  refine ⟨fun ho => ?_, fun ho => ?_⟩
  · rw [syncToPulse_of_busy sec (s := s.taken) ho]
    rfl
  · rw [syncToPulse_of_accepted sec (s := s.taken) ho]
    rfl

/-! ## The seconds pulse -/

/-- The offset is the time's distance from its nearest second (R158 part 1). -/
theorem pulseOffset_near (x : Nat) :
    -500 ≤ pulseOffset x ∧ pulseOffset x ≤ 499 ∧ (pulseOffset x - x) % 1000 = 0 := by
  have hx : pulseOffset x = if x % 1000 < 500 then ((x % 1000 : Nat) : Int)
    else ((x % 1000 : Nat) : Int) - 1000 := rfl
  split at hx <;> omega

theorem holdAtMax_eq (x : Nat) : holdAtMax x = min x Config.maxSurveyTime := by
  show (if Config.maxSurveyTime < x then Config.maxSurveyTime else x : Nat) = _
  split <;> omega

namespace State

variable {s : State}

theorem pulseAccepted_iff :
    s.pulseAccepted = true ↔ ∀ v, s.pulse.lastPulse = some v → v + 900 ≤ s.timeBase := by
  unfold pulseAccepted
  cases s.pulse.lastPulse with
  | none => simp
  | some v =>
    refine decide_eq_true_iff.trans ⟨fun h w hw => ?_, fun h => h v rfl⟩
    cases hw
    exact h

theorem pulseLossDue_iff :
    s.pulseLossDue = true
      ↔ s.pulse.pulsing = true ∧ ∃ v, s.pulse.lastPulse = some v ∧ v + 2500 ≤ s.timeBase := by
  unfold pulseLossDue
  cases s.pulse.pulsing with
  | false => simp
  | true =>
    cases s.pulse.lastPulse with
    | none => simp
    | some v =>
      refine decide_eq_true_iff.trans ⟨fun h => ⟨rfl, v, rfl, h⟩, ?_⟩
      rintro ⟨-, w, ⟨⟩, h⟩
      exact h

theorem now_of_not_startup (h : s.startup = false) : s.now = s.clock := by
  rw [now, h]
  rfl

/-- An accepted pulse with a set pending: the set takes effect (R158 part 2). -/
theorem acceptPulse_of_pending {sec : Nat} (hp : s.pulse.pendingSet = some sec) :
    s.acceptPulse = { s with clock := some (1000 * sec), pulse := s.pulsed } := by
  have hb : s.offsetBeyond = false := by
    rw [offsetBeyond, hp]
  unfold acceptPulse
  rw [hb, hp]
  rfl

/-- An accepted pulse with no set pending: its offset is judged (R158 part 3). -/
theorem acceptPulse_of_none (hp : s.pulse.pendingSet = none) :
    s.acceptPulse = { s with
      pulse := s.pulsed
      notices := if s.offsetBeyond then s.notices ||| Notice.pulseOffset.flag else s.notices } := by
  unfold acceptPulse
  rw [hp]
  dsimp only
  split <;> rfl

/-- The offset a pulse measures on a RUNNING clock, and keeps on an UNSET one (R158 part 1). -/
theorem pulsed_of_clock (hup : s.startup = false) {x : TimeMs} (hx : s.clock = some x) :
    s.pulsed = { pulsing := true, lastPulse := some s.timeBase, offset := some (pulseOffset x)
                 pendingSet := none } := by
  rw [pulsed, now_of_not_startup hup, hx]

theorem pulsed_of_unset (hup : s.startup = false) (hx : s.clock = none) :
    s.pulsed = { s.pulse with
      pulsing := true, lastPulse := some s.timeBase, pendingSet := none } := by
  rw [pulsed, now_of_not_startup hup, hx]

end State

section

variable {s : State} (hrun : s.running = true)
include hrun

theorem exec_timePulse :
    exec .timePulse s = .next (if s.pulseAccepted then s.acceptPulse else s) :=
  congrArg _ (State.whenRunning_of_running hrun _)

theorem exec_pulseLoss :
    exec .pulseLoss s = .next (if s.pulseLossDue then
      { s with
        pulse := { s.pulse with pulsing := false }
        notices := s.notices ||| Notice.pulseLost.flag } else s) :=
  congrArg _ (State.whenRunning_of_running hrun _)

theorem exec_pulseLoss_of_not_due (hd : ¬s.pulseLossDue = true) : exec .pulseLoss s = .next s := by
  rw [exec_pulseLoss hrun, if_neg hd]

end

section

variable {s : State} (hrun : s.running = true) (hup : s.startup = false)
  (hacc : ∀ v, s.pulse.lastPulse = some v → v + 900 ≤ s.timeBase)
include hrun hacc

theorem exec_timePulse_of_accepted : exec .timePulse s = .next s.acceptPulse := by
  rw [exec_timePulse hrun, if_pos (State.pulseAccepted_iff.2 hacc)]

include hup

/-- A pending set takes effect, whatever the offset (R158 parts 1 and 2). -/
theorem timePulse_applies_pending {sec : Nat} (hp : s.pulse.pendingSet = some sec) :
    ∃ t : State, exec .timePulse s = .next t
      ∧ t = { s with clock := some (1000 * sec), pulse := t.pulse }
      ∧ t.pulse.pulsing = true ∧ t.pulse.lastPulse = some s.timeBase ∧ t.pulse.pendingSet = none
      ∧ (s.clock = none → t.pulse.offset = s.pulse.offset)
      ∧ (∀ x, s.clock = some x → ∃ f : Int, t.pulse.offset = some f ∧ -500 ≤ f ∧ f ≤ 499
        ∧ (f - x) % 1000 = 0) := by
  rw [exec_timePulse_of_accepted hrun hacc, State.acceptPulse_of_pending hp]
  refine ⟨_, rfl, rfl, rfl, rfl, rfl, fun hx => ?_,
    fun x hx => ⟨pulseOffset x, ?_, pulseOffset_near x⟩⟩
  · exact (State.pulsed_of_unset hup hx).symm ▸ rfl
  · exact (State.pulsed_of_clock hup hx).symm ▸ rfl

/-- With no set pending the offset of a RUNNING clock is judged (R158 parts 1 and 3). -/
theorem timePulse_judges_offset {x : TimeMs} (hp : s.pulse.pendingSet = none)
    (hx : s.clock = some x) :
    exec .timePulse s = .next { s with
      pulse := { pulsing := true, lastPulse := some s.timeBase, offset := some (pulseOffset x)
                 pendingSet := none }
      notices := if s.constants.pulseTolerance < (pulseOffset x).natAbs
        then s.notices ||| Notice.pulseOffset.flag else s.notices } := by
  have hb : s.offsetBeyond = decide (s.constants.pulseTolerance < (pulseOffset x).natAbs) := by
    rw [State.offsetBeyond, hp, State.now_of_not_startup hup, hx]
  rw [exec_timePulse_of_accepted hrun hacc, State.acceptPulse_of_none hp,
    State.pulsed_of_clock hup hx, hb]
  simp only [decide_eq_true_eq]

/-- On an UNSET clock a pulse with no set pending is only recorded (R157, R158). -/
theorem timePulse_records (hp : s.pulse.pendingSet = none) (hx : s.clock = none) :
    exec .timePulse s = .next
      { s with pulse := { s.pulse with pulsing := true, lastPulse := some s.timeBase } } := by
  have hb : s.offsetBeyond = false := by
    rw [State.offsetBeyond, hp, State.now_of_not_startup hup, hx]
  rw [exec_timePulse_of_accepted hrun hacc, State.acceptPulse_of_none hp,
    State.pulsed_of_unset hup hx, hb, ← hp]
  rfl

end

/-- Settles O50: an edge is taken by its distance from the last accepted pulse, a loss by the same
reading, and the hold is a minimum. -/
theorem pulsesMeasuredAndLost : Obligations.PulsesMeasuredAndLost := by
  intro s hrun hup
  refine ⟨fun v hv hlt => ?_, fun hacc => ⟨fun sec hp => timePulse_applies_pending hrun hup hacc hp,
    fun x hp hx => ?_, fun hp hx => timePulse_records hrun hup hacc hp hx⟩,
    fun v hpul hv hle => ?_, fun v hv hlt => ?_, fun hpul => ?_, ?_⟩
  · rw [exec_timePulse hrun, if_neg]
    intro hacc
    have := State.pulseAccepted_iff.1 hacc v hv
    omega
  · obtain ⟨hlo, hhi, hmod⟩ := pulseOffset_near x
    exact ⟨_, pulseOffset x, timePulse_judges_offset hrun hup hacc hp hx, hlo, hhi, hmod, rfl⟩
  · rw [exec_pulseLoss hrun, if_pos (State.pulseLossDue_iff.2 ⟨hpul, v, hv, hle⟩)]
  · refine exec_pulseLoss_of_not_due hrun fun hd => ?_
    obtain ⟨-, w, hw, hle⟩ := State.pulseLossDue_iff.1 hd
    cases hv.symm.trans hw
    omega
  · refine exec_pulseLoss_of_not_due hrun fun hd => ?_
    obtain ⟨hp, -⟩ := State.pulseLossDue_iff.1 hd
    simp [hpul] at hp
  · exact congrArg (fun f => Host.Outcome.next { s with clock := s.clock.map f })
      (funext holdAtMax_eq)

/-! ## The idle step -/

@[simp] theorem mem_dueWhen {b : Bool} {c d : Instr} : c ∈ dueWhen b d ↔ c = d ∧ b = true := by
  cases b <;> simp [dueWhen]

theorem mem_allHeads (h : Head) : h ∈ allHeads := by
  cases h <;> decide

theorem State.mem_dueOnHead {s : State} {h : Head} {c : Instr} :
    c ∈ s.dueOnHead h ↔ (c = .frameBrokenOff h ∧ s.pauseDue h = true)
      ∨ (c = .headTimeout h ∧ s.timeoutDue h = true)
      ∨ (c = .settlingDeadline h ∧ s.settlingDue h = true)
      ∨ (c = .capDeadline h ∧ s.capDue h = true) := by
  simp [State.dueOnHead]

/-- The commands due on a running part, each with what makes it due (log 2, log 4). -/
theorem State.mem_dueRunning {s : State} {c : Instr} :
    c ∈ s.dueRunning ↔ (c = .backupLostStartup ∧ s.startup = true) ∨ (∃ h, c ∈ s.dueOnHead h)
      ∨ (c = .pulseLoss ∧ s.pulseLossDue = true)
      ∨ (c = .tideEvaluationComplete ∧ s.tide.evaluation.isSome = true)
      ∨ (c = .driftApplyComplete ∧ s.applying.isSome = true)
      ∨ (c = .findNearScanEnd ∧ s.scan.isSome = true) := by
  simp [State.dueRunning, mem_allHeads]

/-- A drift walk goes on with the loop it applies (R142). -/
theorem State.applying_passMillisecond (s : State) : s.passMillisecond.applying = s.applying := by
  unfold State.applying State.passMillisecond
  generalize s.inFlight = f
  cases f with
  | none => rfl
  | some f => cases f <;> rfl

theorem State.reachedMax_eq_true {s t : State} :
    s.reachedMax t = true ↔ t.clock = some Config.maxSurveyTime ∧ s.clock ≠ t.clock := by
  simp [State.reachedMax]

theorem State.tick_pending (s : State) :
    s.tick.pending
      = (if s.tick.clock = some Config.maxSurveyTime ∧ s.clock ≠ s.tick.clock
          then [.clockHoldAtMax] else [])
        ++ (if s.running then s.tick.dueRunning else []) := by
  have hmax := State.reachedMax_eq_true (s := s) (t := s.passMillisecond)
  have hdue : dueWhen (s.reachedMax s.passMillisecond) .clockHoldAtMax
      = if s.tick.clock = some Config.maxSurveyTime ∧ s.clock ≠ s.tick.clock
        then [.clockHoldAtMax] else [] :=
    if_congr hmax rfl rfl
  exact congrArg (· ++ _) hdue

theorem State.tick_fields (s : State) :
    s.tick = { s with
      timeBase := if s.vdd then s.timeBase + 1 else s.timeBase
      clock := s.clock.map fun x => min (x + 1) Config.maxSurveyTime
      inFlight := match s.inFlight with
        | some (.driftApply k _) =>
          some (.driftApply k (((Table.get s.loops k).map fun l => l.members.length).getD 0))
        | some (.tideRedo n held awaited) => some (.tideRedo n held awaited)
        | none => none
      pending := s.tick.pending } := by
  have hclock : (s.clock.map fun x => min (x + 1) Config.maxSurveyTime)
      = s.clock.map fun x => holdAtMax (x + 1) := by
    simp only [holdAtMax_eq]
  rw [hclock]
  unfold State.tick State.passMillisecond
  generalize s.inFlight = f
  cases f with
  | none => rfl
  | some f => cases f <;> rfl

/-- Settles O2: the tick field by field, and its queue command by command. -/
theorem idleStepPassesOneMillisecond : Obligations.IdleStepPassesOneMillisecond := by
  intro s hs
  refine ⟨s.tick, by rw [step, hs], s.tick_fields, s.tick_pending, fun c => ?_⟩
  have happ : s.tick.applying = s.applying := s.applying_passMillisecond
  rw [State.mem_dueRunning, happ]
  simp only [State.mem_dueOnHead, Option.isSome_iff_ne_none]
  rfl

end Sys2Proof.Machine
end

section
/-! Which operations can bring an occupation to OPEN: of those that work on the records, none but an
opening (R50, R65, R63, R174). -/

namespace Sys2Proof.Machine

/-- From `s` to `t` no occupation is OPEN where none was. -/
def State.opensNone (s t : State) : Prop := t.anyOpen = true → s.anyOpen = true

theorem State.anyOpen_iff {s : State} :
    s.anyOpen = true ↔ ∃ n o, (n, o) ∈ s.occupations ∧ o.state = .opened := by
  simp [State.anyOpen]

namespace State.opensNone

variable {s t u : State}

theorem refl (s : State) : s.opensNone s := id

theorem trans (h : s.opensNone t) (h' : t.opensNone u) : s.opensNone u := fun hu => h (h' hu)

/-- Every OPEN record of the later state comes of one of the earlier. -/
theorem of_records (h : ∀ n o, (n, o) ∈ t.occupations → o.state = .opened →
    ∃ m o', (m, o') ∈ s.occupations ∧ o'.state = .opened) : s.opensNone t := by
  intro ht
  obtain ⟨n, o, hm, ho⟩ := State.anyOpen_iff.1 ht
  exact State.anyOpen_iff.2 (h n o hm ho)

/-- Records that are only taken away. -/
theorem of_fewer (h : ∀ e ∈ t.occupations, e ∈ s.occupations) : s.opensNone t :=
  of_records fun n o hm ho => ⟨n, o, h _ hm, ho⟩

theorem of_occupations (h : t.occupations = s.occupations) : s.opensNone t :=
  of_fewer fun _ he => h ▸ he

theorem of_empty (h : t.occupations = []) : s.opensNone t :=
  of_fewer fun e he => by
    rw [h] at he
    cases he

theorem ite {c : Prop} {_ : Decidable c} (h : s.opensNone t) : s.opensNone (if c then t else s) := by
  split
  · exact h
  · exact .refl s

end State.opensNone

/-- Records that keep their places are OPEN where they were. -/
theorem State.sameRecords.opensNone {s t : State} (h : s.sameRecords t) : s.opensNone t := by
  refine .of_records fun n o hm ho => ?_
  have hp : (n, o.place) ∈ Table.project Occupation.place t.occupations :=
    Table.mem_project.2 ⟨o, hm, rfl⟩
  rw [h.occupations] at hp
  obtain ⟨o', hm', hplace⟩ := Table.mem_project.1 hp
  exact ⟨n, o', hm', (Occupation.isOpen_of_place hplace).2 ho⟩

namespace State

variable (s : State)

/-- A record brought to another state than OPEN. -/
theorem opensNone_endSession (h : Head) (w : Session) {c : OccState} (hc : c ≠ .opened) :
    s.opensNone (s.endSession h w c) := by
  refine .of_records fun n o hm ho => ?_
  obtain ⟨-, hm'⟩ | ⟨-, o', -, heq⟩ := Table.mem_modify (t := s.occupations) (k := w.occupation)
    (f := fun o => { o with state := c }) hm
  · exact ⟨n, o, hm', ho⟩
  · cases heq
    exact absurd ho hc

theorem opensNone_interrupt : s.opensNone s.interrupt := by
  refine .of_records fun n o hm ho => ?_
  obtain ⟨e, -, heq⟩ := List.mem_map.1 hm
  cases heq
  exact absurd ho e.2.state_interrupted

/-! ## The Occupation Engines -/

theorem opensNone_failOccupation (h : Head) (c : FailCause) :
    s.opensNone (s.failOccupation h c) := by
  unfold failOccupation
  split
  · exact .refl s
  · next w _ =>
    refine (s.opensNone_endSession h w (c := .failed c) nofun).trans
      (sameRecords.opensNone (sameRecords.setEngine ?_ h .idle))
    exact (sameRecords_withdraw _ (.head h)).trans (sameRecords_setNotice _ _)

/-- A close writes its record CLOSED; the handover and the engine's going on leave the places. -/
theorem opensNone_closeOccupation (h : Head) : s.opensNone (s.closeOccupation h) := by
  unfold closeOccupation
  split
  · next w g _ grade _ =>
    split
    · next o _ =>
      have hclose := s.sameRecords_modifyOccupation_congr w.occupation
        (f := fun o => { o with state := .closed })
        (f' := Occupation.close g grade (s.staleAtClose o))
      refine (s.opensNone_endSession h w (c := .closed) nofun).trans (sameRecords.opensNone
        (.trans (sameRecords.setEngine (hclose.trans ?_) h .idle) (sameRecords_revise _ _)))
      refine sameRecords.trans ?_ ((sameRecords_handOver _ _).trans
        ((sameRecords_queueItem _ _).trans (sameRecords_setNotice _ _)))
      split
      · exact sameRecords_queueItem _ _
      · exact .refl _
    · exact .refl s
  · exact .refl s

theorem opensNone_closeIfReady (h : Head) : s.opensNone (s.closeIfReady h) := by
  unfold closeIfReady
  split
  · exact (s.opensNone_closeOccupation h).ite
  · exact .refl s

theorem opensNone_endIntegration (h : Head) (d : Ending) :
    s.opensNone (s.endIntegration h d) := by
  unfold endIntegration
  split
  · split
    · exact s.opensNone_failOccupation h _
    · exact (s.setEngine h _).opensNone_closeIfReady h
  · exact .refl s

theorem opensNone_targetReached (h : Head) : s.opensNone (s.targetReached h) := by
  unfold targetReached
  split
  · exact (s.opensNone_endIntegration h _).ite
  · exact .refl s

theorem opensNone_stopIntegration (h : Head) : s.opensNone (s.stopIntegration h) := by
  unfold stopIntegration
  split
  · split
    · exact s.opensNone_failOccupation h _
    · exact s.opensNone_endIntegration h _
  · exact .refl s

theorem opensNone_capIntegration (h : Head) : s.opensNone (s.capIntegration h) := by
  unfold capIntegration
  split
  · split
    · exact s.opensNone_failOccupation h _
    · exact s.opensNone_endIntegration h _
  · exact .refl s

theorem opensNone_engineSample (h : Head) (x : Sample) : s.opensNone (s.engineSample h x) := by
  unfold engineSample
  split
  · split
    · exact s.opensNone_failOccupation h _
    · exact (sameRecords_settleReached (s.setEngine h _) h).opensNone
  · next heng =>
    split
    · exact s.opensNone_failOccupation h _
    · split
      · exact (s.sameRecords_integrateSample heng x).opensNone.trans (opensNone_targetReached _ h)
      · exact (s.sameRecords_modifyOccupation _).opensNone
  · exact .refl s
  · exact .refl s

theorem opensNone_checkFrame (h : Head) (frame : List Byte) : s.opensNone (s.checkFrame h frame) := by
  unfold checkFrame
  split
  · exact (sameRecords_engineGap (s.setChannel h _) h _).opensNone.trans (opensNone_engineSample _ h _)
  · exact (s.sameRecords_countCorrupt h _).opensNone

theorem opensNone_receiveCharacter (h : Head) (b : Byte) :
    s.opensNone (s.receiveCharacter h b) := by
  unfold receiveCharacter
  dsimp only
  split
  · exact (s.setChannel h _).opensNone_checkFrame h _
  · exact .refl s

theorem opensNone_engineResult (h : Head) (target step : Nat) (v : TideValue) :
    s.opensNone (s.engineResult h target step v) := by
  unfold engineResult
  split
  · split
    · exact ((s.sameRecords_modifyOccupation _).trans ((sameRecords_setEngine _
        (Engine.session?_withOwed _ _)).trans (sameRecords_placeOwed _ h))).opensNone.trans
          (opensNone_closeIfReady _ h)
    · exact (s.sameRecords_placeOwed h).opensNone
  · exact .refl s

theorem opensNone_completeEvaluation : s.opensNone s.completeEvaluation := by
  unfold completeEvaluation
  split
  · exact .refl s
  · dsimp only
    split
    · exact ((s.sameRecords_tide _).trans (sameRecords_startEvaluation _)).opensNone
    · refine .trans ?_ (sameRecords_startEvaluation _).opensNone
      split
      · exact (s.sameRecords_tide _).opensNone.trans (opensNone_engineResult _ _ _ _ _)
      · exact ((s.sameRecords_tide _).trans (sameRecords_redoResult _ _ _ _)).opensNone

/-! ## Records freed -/

theorem opensNone_delete (n : Nat) (o : Occupation) : s.opensNone (s.delete n o) := by
  have hunbound : s.sameRecords (s.unbound n o) := by
    unfold unbound
    split
    · exact s.sameRecords_resolveRoles n o
    · exact .refl s
  refine hunbound.opensNone.trans (.of_fewer fun e he => ?_)
  rw [occupations_delete] at he
  exact (Table.mem_del.1 he).1

theorem opensNone_retire (slot : Nat) (chain : List Nat) : s.opensNone (s.retire slot chain) := by
  refine (sameRecords_abandonAll (s.loopsBasedAt slot) s).opensNone.trans (.of_fewer fun e he => ?_)
  rw [occupations_retire] at he
  exact List.mem_of_mem_filter he

theorem opensNone_applyEdit (slot : Nat) (st : Station) (e : StationEdit) :
    s.opensNone (s.applyEdit slot st e) := by
  have hrewritten : s.opensNone (s.rewritten slot (st.edited e)) := .refl s
  unfold applyEdit
  dsimp only
  split
  · exact hrewritten.trans ((sameRecords_markTideStale _ _).trans (sameRecords_revise _ _)).opensNone
  · exact hrewritten

end State

end Sys2Proof.Machine
end

section
/-! Survey time and the Pulse Monitor under each operation: most leave both, and only the clock's own
requests and events and the start-ups write them (R153, R155 to R158, R172 to R175). -/

namespace Sys2Proof.Machine

/-! ## Sound time, part by part -/

namespace State.timeSound

variable {s : State} (h : s.timeSound)
include h

theorem clock_le {x : TimeMs} (hx : s.clock = some x) : x ≤ Config.maxSurveyTime := by
  obtain ⟨hclock, -, -⟩ := h
  exact hclock x hx

theorem pending_le {sec : Nat} (hp : s.pulse.pendingSet = some sec) : sec ≤ 4294967295 := by
  obtain ⟨-, hrange, -⟩ := h
  exact hrange sec hp

theorem none_pending (ho : s.anyOpen = true) : s.pulse.pendingSet = none := by
  obtain ⟨-, -, hopen⟩ := h
  exact hopen ho

end State.timeSound

/-! ## The relations -/

/-- From `s` to `t` clock and Pulse Monitor stay as they are, and no occupation comes to be OPEN. -/
structure State.leavesTime (s t : State) : Prop where
  clock : t.clock = s.clock
  pulse : t.pulse = s.pulse
  opened : s.opensNone t

/-- From `s` to `t` survey time stays sound (R154), and while an occupation is OPEN it stays as it is. -/
structure State.keepsTime (s t : State) : Prop where
  sound : s.timeSound → t.timeSound
  steady : s.timeSound → s.anyOpen = true → t.clock = s.clock

theorem State.leavesTime.refl (s : State) : s.leavesTime s := ⟨rfl, rfl, .refl s⟩

/-- An operation that touches neither clock nor monitor nor any occupation record. -/
theorem State.leavesTime.of_untouched {s t : State} (clock : t.clock = s.clock := by rfl)
    (pulse : t.pulse = s.pulse := by rfl) (occupations : t.occupations = s.occupations := by rfl) :
    s.leavesTime t :=
  ⟨clock, pulse, .of_occupations occupations⟩

theorem State.leavesTime.trans {s t u : State} (h : s.leavesTime t) (h' : t.leavesTime u) :
    s.leavesTime u :=
  ⟨h'.clock.trans h.clock, h'.pulse.trans h.pulse, h.opened.trans h'.opened⟩

theorem State.leavesTime.keeps {s t : State} (h : s.leavesTime t) : s.keepsTime t where
  sound hs := by
    rw [State.timeSound, h.clock, h.pulse]
    exact ⟨fun _ => hs.clock_le, fun _ => hs.pending_le, fun ht => hs.none_pending (h.opened ht)⟩
  steady _ _ := h.clock

namespace State.keepsTime

variable {s t : State}

theorem refl (s : State) : s.keepsTime s := (State.leavesTime.refl s).keeps

theorem of_untouched (clock : t.clock = s.clock := by rfl) (pulse : t.pulse = s.pulse := by rfl)
    (occupations : t.occupations = s.occupations := by rfl) : s.keepsTime t :=
  (State.leavesTime.of_untouched clock pulse occupations).keeps

theorem ite {c : Prop} {_ : Decidable c} (h : s.keepsTime t) : s.keepsTime (if c then t else s) := by
  split
  · exact h
  · exact .refl s

theorem whenRunning {act : State → State} (h : s.keepsTime (act s)) :
    s.keepsTime (s.whenRunning act) :=
  h.ite

end State.keepsTime

namespace State

variable (s : State)

/-! ## Operations that leave clock and monitor -/

theorem leavesTime_revise (b : Bool) : s.leavesTime (s.revise b) := by
  obtain ⟨_, _, _, _, _, hf⟩ := s.revise_frame b
  exact ⟨by rw [hf], by rw [hf], (s.sameRecords_revise b).opensNone⟩

theorem leavesTime_failOccupation (h : Head) (c : FailCause) :
    s.leavesTime (s.failOccupation h c) := by
  obtain ⟨_, _, _, _, hf⟩ := s.failOccupation_frame h c
  exact ⟨by rw [hf], by rw [hf], s.opensNone_failOccupation h c⟩

theorem leavesTime_withdraw (src : TideSource) : s.leavesTime (s.withdraw src) := by
  obtain ⟨_, hf⟩ := s.withdraw_frame src
  exact ⟨by rw [hf], by rw [hf], (s.sameRecords_withdraw src).opensNone⟩

theorem leavesTime_resetHead (h : Head) : s.leavesTime (s.resetHead h) := by
  have hchannel : s.leavesTime (s.setChannel h .reset) := .of_untouched
  exact hchannel.trans ((leavesTime_failOccupation _ h _).trans (leavesTime_withdraw _ _))

theorem leavesTime_enterIntegrating (h : Head) (t : TimeMs) :
    s.leavesTime (s.enterIntegrating h t) := by
  obtain ⟨_, hf⟩ := s.enterIntegrating_frame h t
  exact ⟨by rw [hf], by rw [hf], (s.sameRecords_enterIntegrating h t).opensNone⟩

theorem leavesTime_settleReached (h : Head) : s.leavesTime (s.settleReached h) := by
  obtain ⟨_, hf⟩ := s.settleReached_frame h
  exact ⟨by rw [hf], by rw [hf], (s.sameRecords_settleReached h).opensNone⟩

theorem leavesTime_targetReached (h : Head) : s.leavesTime (s.targetReached h) := by
  obtain ⟨_, _, _, _, _, _, _, _, hf⟩ := s.targetReached_frame h
  exact ⟨by rw [hf], by rw [hf], s.opensNone_targetReached h⟩

theorem leavesTime_stopIntegration (h : Head) : s.leavesTime (s.stopIntegration h) := by
  obtain ⟨_, _, _, _, _, _, _, _, hf⟩ := s.stopIntegration_frame h
  exact ⟨by rw [hf], by rw [hf], s.opensNone_stopIntegration h⟩

theorem leavesTime_capIntegration (h : Head) : s.leavesTime (s.capIntegration h) := by
  obtain ⟨_, _, _, _, _, _, _, _, hf⟩ := s.capIntegration_frame h
  exact ⟨by rw [hf], by rw [hf], s.opensNone_capIntegration h⟩

theorem leavesTime_completeEvaluation : s.leavesTime s.completeEvaluation := by
  obtain ⟨_, _, _, _, _, _, _, _, hf⟩ := s.completeEvaluation_frame
  exact ⟨by rw [hf], by rw [hf], s.opensNone_completeEvaluation⟩

theorem leavesTime_endApply : s.leavesTime s.endApply := by
  unfold endApply
  split
  · next k _ =>
    obtain ⟨_, _, _, _, _, hf⟩ := s.completeApply_frame k
    exact .trans ⟨by rw [hf], by rw [hf], (s.sameRecords_completeApply k).opensNone⟩
      (leavesTime_revise _ true)
  · exact .refl s

theorem leavesTime_receiveCharacter (h : Head) (b : Byte) :
    s.leavesTime (s.receiveCharacter h b) := by
  obtain ⟨_, _, _, _, _, _, _, _, _, hf⟩ := s.receiveCharacter_frame h b
  exact ⟨by rw [hf], by rw [hf], s.opensNone_receiveCharacter h b⟩

theorem leavesTime_countCorrupt (h : Head) (r : Receiver) : s.leavesTime (s.countCorrupt h r) := by
  obtain ⟨_, _, hf⟩ := s.countCorrupt_frame h r
  exact ⟨by rw [hf], by rw [hf], (s.sameRecords_countCorrupt h r).opensNone⟩

theorem leavesTime_framingError (h : Head) : s.leavesTime (s.framingError h) := by
  unfold framingError
  dsimp only
  split
  · exact .of_untouched
  · exact s.leavesTime_countCorrupt h _

theorem leavesTime_loseHead (h : Head) : s.leavesTime (s.loseHead h) := by
  obtain ⟨_, _, _, hf⟩ := s.loseHead_frame h
  exact ⟨by rw [hf], by rw [hf], (s.sameRecords_loseHead h).opensNone⟩

theorem leavesTime_endScan : s.leavesTime s.endScan := by
  unfold endScan
  split
  · exact .of_untouched
  · exact .refl s

theorem leavesTime_applyEdit (slot : Nat) (st : Station) (e : StationEdit) :
    s.leavesTime (s.applyEdit slot st e) := by
  have hkept : (s.applyEdit slot st e).clock = s.clock ∧ (s.applyEdit slot st e).pulse = s.pulse := by
    cases hm : st.movedBy e with
    | true =>
      obtain ⟨_, _, _, _, _, _, hf⟩ := applyEdit_of_moved_frame (s := s) (k := slot) hm
      rw [hf]
      exact ⟨rfl, rfl⟩
    | false =>
      rw [applyEdit, hm]
      exact ⟨rfl, rfl⟩
  obtain ⟨hclock, hpulse⟩ := hkept
  exact ⟨hclock, hpulse, s.opensNone_applyEdit slot st e⟩

theorem leavesTime_retire (slot : Nat) (chain : List Nat) :
    s.leavesTime (s.retire slot chain) := by
  obtain ⟨_, _, _, _, _, hf⟩ := s.retire_frame slot chain
  exact ⟨by rw [hf], by rw [hf], s.opensNone_retire slot chain⟩

theorem leavesTime_clear (part : Partition) : s.leavesTime (s.clear part) := by
  rw [clear_eq]
  exact ⟨rfl, rfl, .of_empty rfl⟩

theorem leavesTime_setIncluded (n : Nat) (o : Occupation) (b : Bool) :
    s.leavesTime (s.setIncluded n o b) := by
  obtain ⟨_, _, _, _, _, hf⟩ := s.setIncluded_frame n o b
  exact ⟨by rw [hf], by rw [hf], ((s.sameRecords_modifyOccupation n).trans
    ((sameRecords_queueItem _ _).trans (sameRecords_revise _ _))).opensNone⟩

theorem leavesTime_delete (n : Nat) (o : Occupation) : s.leavesTime (s.delete n o) := by
  obtain ⟨_, _, _, _, _, hf⟩ := s.delete_frame n o
  exact ⟨by rw [hf], by rw [hf], s.opensNone_delete n o⟩

theorem leavesTime_abandon (k : Nat) : s.leavesTime (s.abandon k) := by
  obtain ⟨_, _, _, _, _, _, hf⟩ := s.abandon_frame k
  exact ⟨by rw [hf], by rw [hf], (s.sameRecords_abandon k).opensNone⟩

theorem leavesTime_release (k : Nat) (l : Loop) : s.leavesTime (s.release k l) :=
  ⟨rfl, rfl, (s.sameRecords_release k l).opensNone⟩

theorem leavesTime_writeEntry (i : Nat) (c : Constituent) : s.leavesTime (s.writeEntry i c) := by
  obtain ⟨_, _, _, _, _, hf⟩ := s.writeEntry_frame i c
  exact ⟨by rw [hf], by rw [hf], (s.sameRecords_writeEntry i c).opensNone⟩

theorem leavesTime_writeConstants (o : ConstantsOperands) : s.leavesTime (s.writeConstants o) := by
  obtain ⟨_, _, _, hf⟩ := queueAll_frame (s.constantItems o)
    { s with constants := s.constants.carry o }
  refine .trans (t := State.queueAll _ _) ⟨by rw [hf], by rw [hf], ?_⟩
    (leavesTime_revise _ s.revisionBusy)
  exact (sameRecords_queueAll (s.constantItems o) { s with constants := s.constants.carry o }).opensNone

theorem leavesTime_restart : s.leavesTime s.restart := by
  obtain ⟨_, _, _, hf⟩ := queueAll_frame s.interrupt.owedItems s.interrupt
  refine .trans (t := { s.interrupt.queueAll s.interrupt.owedItems with
    notices := Notice.restarted.flag }) ⟨by rw [hf]; rfl, by rw [hf]; rfl, ?_⟩
    (leavesTime_revise _ false)
  exact s.opensNone_interrupt.trans (sameRecords_queueAll s.interrupt.owedItems s.interrupt).opensNone

/-! ## Operations that write clock or monitor -/

/-- A time of 32 bits of seconds and 999 ms at most is in range (R153). -/
theorem maxSurveyTime_bound {sec ms : Nat} (hsec : sec ≤ 4294967295) (hms : ms ≤ 999) :
    1000 * sec + ms ≤ Config.maxSurveyTime := by
  simp only [Config.maxSurveyTime]
  omega

/-- An opening drops a pending set (R50, R156). -/
theorem keepsTime_openOccupation (q : Opening) : s.keepsTime (s.openOccupation q) := by
  have hkept : (s.openOccupation q).clock = s.clock
      ∧ (s.openOccupation q).pulse = { s.pulse with pendingSet := none } := by
    obtain ⟨_, _, _, _, ha⟩ := s.applyStaged_frame q.head
    choose c n e hl using loseHead_frame
    simp only [openOccupation, hl, ha]
    exact ⟨rfl, rfl⟩
  obtain ⟨hclock, hpulse⟩ := hkept
  refine ⟨fun h => ⟨?_, ?_, ?_⟩, fun _ _ => hclock⟩
  · rw [hclock]
    exact fun _ => h.clock_le
  · rw [hpulse]
    exact nofun
  · rw [hpulse]
    exact fun _ => rfl

/-- SET_TIME is BUSY while an occupation is OPEN, and its operands give a time in range (R153, R155). -/
theorem keepsTime_setTime {sec ms : Nat} (hsec : sec ≤ 4294967295) :
    s.keepsTime (Machine.setTime sec ms s).1 := by
  by_cases hms : 999 < ms
  · rw [setTime_of_badField hms]
    exact .refl s
  · cases ho : s.anyOpen with
    | true =>
      rw [setTime_of_busy (Nat.not_lt.1 hms) ho]
      exact .refl s
    | false =>
      rw [setTime_of_accepted (Nat.not_lt.1 hms) ho]
      refine ⟨fun _ => ⟨?_, nofun, fun _ => rfl⟩, fun _ h => absurd h (by simp [ho])⟩
      exact fun _ ht => Option.some.inj ht ▸ maxSurveyTime_bound hsec (Nat.not_lt.1 hms)

/-- SYNC_TO_PULSE is BUSY while an occupation is OPEN (R156). -/
theorem keepsTime_syncToPulse {sec : Nat} (hsec : sec ≤ 4294967295) :
    s.keepsTime (Machine.syncToPulse sec s).1 := by
  cases ho : s.anyOpen with
  | true =>
    rw [syncToPulse_of_busy sec ho]
    exact .refl s
  | false =>
    rw [syncToPulse_of_accepted sec ho]
    refine ⟨fun h => ⟨fun _ => h.clock_le, ?_, fun hopen => absurd (ho.symm.trans hopen) nofun⟩,
      fun _ _ => rfl⟩
    rintro _ ⟨⟩
    exact hsec

/-- A pending set is in range, and none is pending while an occupation is OPEN (R154, R158). -/
theorem keepsTime_acceptPulse : s.keepsTime s.acceptPulse := by
  cases hp : s.pulse.pendingSet with
  | none =>
    rw [acceptPulse_of_none hp]
    exact ⟨fun h => ⟨fun _ => h.clock_le, nofun, fun _ => rfl⟩, fun _ _ => rfl⟩
  | some sec =>
    rw [acceptPulse_of_pending hp]
    refine ⟨fun h => ⟨?_, nofun, fun _ => rfl⟩, fun h ho => ?_⟩
    · have hsec := h.pending_le hp
      exact fun _ ht => Option.some.inj ht ▸ maxSurveyTime_bound hsec (Nat.zero_le 999)
    · cases hp.symm.trans (h.none_pending ho)

/-- A time in range is held as it is (R153). -/
theorem keepsTime_hold : s.keepsTime { s with clock := s.clock.map holdAtMax } := by
  have hheld (h : s.timeSound) : s.clock.map holdAtMax = s.clock := by
    cases hc : s.clock with
    | none => rfl
    | some x => rw [Option.map_some, holdAtMax_eq, Nat.min_eq_left (h.clock_le hc)]
  refine ⟨fun h => ?_, fun h _ => hheld h⟩
  rw [hheld h]
  exact h

theorem keepsTime_losePulse : s.keepsTime
    ({ s with pulse := { s.pulse with pulsing := false } }.setNotice .pulseLost) :=
  ⟨id, fun _ _ => rfl⟩

/-- The main domain reset: the clock stays, and no set is pending (R161, R173). -/
theorem keepsTime_resetMain : s.keepsTime s.resetMain :=
  ⟨fun h => ⟨fun _ => h.clock_le, nofun, fun _ => rfl⟩, fun _ _ => rfl⟩

theorem keepsTime_start : s.keepsTime s.start := by
  unfold start
  dsimp only
  split
  · have hrestart := s.resetMain.leavesTime_restart
    exact ⟨fun h => hrestart.keeps.sound (s.keepsTime_resetMain.sound h), fun _ _ => hrestart.clock⟩
  · exact ⟨s.keepsTime_resetMain.sound, fun _ _ => rfl⟩

/-- With every record lost, an UNSET clock and no set out of range time is sound. -/
theorem timeSound_of_lost {t : State} (hc : t.clock = none) (ho : t.occupations = [])
    (hp : ∀ sec, t.pulse.pendingSet = some sec → sec ≤ 4294967295) : t.timeSound := by
  refine ⟨by simp [hc], hp, fun h => ?_⟩
  simp [anyOpen, ho] at h

theorem timeSound_rebuildBackup (h : s.timeSound) : s.rebuildBackup.timeSound := by
  have hpulse : s.rebuildBackup.pulse = s.pulse := by
    unfold rebuildBackup loadDefaults
    split <;> rfl
  refine timeSound_of_lost rfl rfl ?_
  rw [hpulse]
  exact fun _ => h.pending_le

theorem timeSound_tick (h : s.timeSound) : s.tick.timeSound := by
  refine ⟨fun x hx => ?_, fun _ => h.pending_le, h.none_pending⟩
  obtain ⟨y, -, rfl⟩ := Option.map_eq_some_iff.1 hx
  rw [holdAtMax_eq]
  exact Nat.min_le_right _ _

end State

end Sys2Proof.Machine
end

section
/-! Every command, and so every step, keeps survey time sound, and none sets it while an occupation is
OPEN (R153, R154). -/

namespace Sys2Proof.Machine

/-! ## The owners of the requests -/

/-- Serving keeps survey time. -/
def Server.KeepsTime (serve : Server) : Prop :=
  ∀ (p : List Byte) (s : State), s.keepsTime (serve p s).1

theorem State.keepsTime_receiveFrame {s : State} {act : State → State}
    (hact : s.taken.keepsTime (act s.taken)) (tag : Byte) (p : List Byte) :
    s.keepsTime (s.receiveFrame tag p act) := by
  obtain h | h | h | h | h := s.receiveFrame_cases tag p act
  case inr.inr.inr.inr =>
    rw [h]
    exact ⟨hact.sound, hact.steady⟩
  all_goals
    rw [h]
    exact ⟨id, fun _ _ => rfl⟩

theorem State.keepsTime_request {serve : Server} (hs : serve.KeepsTime) (s : State) (tag : Byte)
    (p : List Byte) : s.keepsTime (s.request tag p serve) :=
  State.keepsTime_receiveFrame (act := fun s' => (serve p s').1.respond tag (serve p s').2)
    ⟨(hs p s.taken).sound, (hs p s.taken).steady⟩ tag p

namespace Server

theorem keepsTime_fixedForm {n : Nat} {serve : Server} (hs : serve.KeepsTime) :
    KeepsTime (fixedForm n serve) := by
  intro p s
  unfold fixedForm
  split
  · exact hs p s
  · exact .refl s

theorem keepsTime_readForm (n : Nat) (answer : List Byte → State → Answer) :
    KeepsTime (readForm n answer) :=
  keepsTime_fixedForm fun _ s => .refl s

theorem keepsTime_onHead {serve : Head → State → State × Answer}
    (hs : ∀ (h : Head) (s : State), s.leavesTime (serve h s).1) : KeepsTime (onHead serve) :=
  keepsTime_fixedForm fun p s => by
    split
    · exact .refl s
    · exact (hs _ s).keeps

/-! ### The Station Store -/

theorem keepsTime_declareStation : KeepsTime serveDeclareStation :=
  keepsTime_fixedForm fun p s => by
    unfold declareStation
    split
    · split
      · exact .refl s
      · split
        · exact .refl s
        · exact .of_untouched
    · exact .refl s

theorem keepsTime_editStation : KeepsTime serveEditStation :=
  keepsTime_fixedForm fun p s => by
    unfold editStation
    split
    · exact .refl s
    · split
      · exact .refl s
      · split
        · exact .refl s
        · split
          · exact .refl s
          · exact (s.leavesTime_applyEdit _ _ _).keeps

theorem keepsTime_retireStation : KeepsTime serveRetireStation :=
  keepsTime_fixedForm fun p s => by
    unfold retireStation
    split
    · exact .refl s
    · split
      · exact .refl s
      · exact (s.leavesTime_retire _ _).keeps

theorem keepsTime_clearSurvey : KeepsTime serveClearSurvey :=
  keepsTime_fixedForm fun p s => by
    unfold clearSurvey
    split
    · exact .refl s
    · split
      · exact .refl s
      · exact (s.leavesTime_clear _).keeps

/-! ### Occupations and loops -/

theorem keepsTime_openOccupation : KeepsTime serveOpenOccupation :=
  keepsTime_fixedForm fun p s => by
    unfold openOccupation
    split
    · exact .refl s
    · exact s.keepsTime_openOccupation _

theorem keepsTime_forceIntegrate : KeepsTime serveForceIntegrate :=
  keepsTime_onHead fun h s => by
    unfold forceIntegrate
    split
    · exact s.leavesTime_enterIntegrating h _
    · exact .refl s

theorem keepsTime_stopOccupation : KeepsTime serveStopOccupation :=
  keepsTime_onHead fun h s => by
    unfold stopOccupation
    split
    · exact s.leavesTime_stopIntegration h
    · exact .refl s

theorem keepsTime_cancelOccupation : KeepsTime serveCancelOccupation :=
  keepsTime_onHead fun h s => by
    unfold cancelOccupation
    split
    · exact s.leavesTime_failOccupation h _
    · exact .refl s

theorem keepsTime_includeRequest (b : Bool) :
    KeepsTime (fixedForm 2 fun p s => includeRequest b (fieldNat 0 2 p) s) :=
  keepsTime_fixedForm fun p s => by
    unfold includeRequest
    split
    · exact .refl s
    · split
      · exact (s.leavesTime_setIncluded _ _ b).keeps
      · exact .refl s

theorem keepsTime_deleteOccupation : KeepsTime serveDeleteOccupation :=
  keepsTime_fixedForm fun p s => by
    unfold deleteOccupation
    split
    · exact .refl s
    · split
      · exact .refl s
      · exact (s.leavesTime_delete _ _).keeps

theorem keepsTime_abandonLoop : KeepsTime serveAbandonLoop :=
  keepsTime_fixedForm fun p s => by
    unfold abandonLoop
    split
    · exact .refl s
    · exact ((s.leavesTime_abandon _).trans (State.leavesTime_revise _ _)).keeps

theorem keepsTime_releaseLoop : KeepsTime serveReleaseLoop :=
  keepsTime_fixedForm fun p s => by
    unfold releaseLoop
    split
    · exact .refl s
    · split
      · exact (s.leavesTime_release _ _).keeps
      · exact .refl s

/-! ### Heads and coefficients -/

theorem keepsTime_headReset : KeepsTime serveHeadReset :=
  keepsTime_fixedForm fun p s => by
    unfold headReset
    split
    · exact .refl s
    · exact (s.leavesTime_resetHead _).keeps

theorem keepsTime_stageCalibration : KeepsTime serveStageCalibration := fun p s => by
  unfold serveStageCalibration stageCalibration
  split
  · exact .refl s
  · exact .of_untouched

theorem keepsTime_writeConstituent : KeepsTime serveWriteConstituent :=
  keepsTime_fixedForm fun p s => by
    unfold writeConstituent
    dsimp only
    split
    · exact .refl s
    · split
      · exact .refl s
      · exact (s.leavesTime_writeEntry _ _).keeps

theorem keepsTime_setConstants : KeepsTime serveSetConstants :=
  keepsTime_fixedForm fun _ s => (s.leavesTime_writeConstants _).keeps

/-! ### The clock and the link -/

theorem keepsTime_setTime : KeepsTime serveSetTime :=
  keepsTime_fixedForm fun p s => s.keepsTime_setTime (Nat.le_of_lt_succ (fieldNat_lt 0 4 p))

theorem keepsTime_syncToPulse : KeepsTime serveSyncToPulse :=
  keepsTime_fixedForm fun p s => s.keepsTime_syncToPulse (Nat.le_of_lt_succ (fieldNat_lt 0 4 p))

theorem keepsTime_clearNotices : KeepsTime serveClearNotices :=
  keepsTime_fixedForm fun _ _ => .of_untouched

theorem keepsTime_setNoticeMask : KeepsTime serveSetNoticeMask :=
  keepsTime_fixedForm fun _ _ => .of_untouched

theorem keepsTime_unknown : KeepsTime serveUnknown := fun _ s => .refl s

end Server

/-! ## Frames and transfers -/

namespace State

variable (s : State)

theorem keepsTime_requestFindNear (tag : Byte) (p : List Byte) :
    s.keepsTime (s.requestFindNear tag p) := by
  obtain ⟨_, _, _, _, hf⟩ := s.requestFindNear_frame tag p
  rw [hf]
  exact .of_untouched

theorem keepsTime_linkReset (tag : Byte) (p : List Byte) : s.keepsTime (s.linkReset tag p) := by
  unfold linkReset
  split
  · split
    · exact .refl s
    · split
      · exact .of_untouched
      · exact .of_untouched
  · exact keepsTime_request (serve := fun _ s' => (s', refusal .badField)) (fun _ s' => .refl s') s
      tag p

/-- A good request frame keeps survey time, whatever its code. -/
theorem keepsTime_serveFrame (r : Request) : s.keepsTime (s.serveFrame r) := by
  unfold serveFrame
  split
  case h_1 => exact keepsTime_request Server.keepsTime_declareStation _ _ _
  case h_2 => exact keepsTime_request Server.keepsTime_editStation _ _ _
  case h_5 => exact s.keepsTime_requestFindNear _ _
  case h_6 => exact keepsTime_request Server.keepsTime_retireStation _ _ _
  case h_7 => exact keepsTime_request Server.keepsTime_clearSurvey _ _ _
  case h_8 => exact keepsTime_request Server.keepsTime_openOccupation _ _ _
  case h_9 => exact keepsTime_request Server.keepsTime_forceIntegrate _ _ _
  case h_10 => exact keepsTime_request Server.keepsTime_stopOccupation _ _ _
  case h_11 => exact keepsTime_request Server.keepsTime_cancelOccupation _ _ _
  case h_13 => exact keepsTime_request (Server.keepsTime_includeRequest false) _ _ _
  case h_14 => exact keepsTime_request (Server.keepsTime_includeRequest true) _ _ _
  case h_15 => exact keepsTime_request Server.keepsTime_deleteOccupation _ _ _
  case h_17 => exact keepsTime_request Server.keepsTime_abandonLoop _ _ _
  case h_18 => exact keepsTime_request Server.keepsTime_releaseLoop _ _ _
  case h_20 => exact keepsTime_request Server.keepsTime_headReset _ _ _
  case h_21 => exact keepsTime_request Server.keepsTime_stageCalibration _ _ _
  case h_23 => exact keepsTime_request Server.keepsTime_writeConstituent _ _ _
  case h_25 => exact keepsTime_request Server.keepsTime_setConstants _ _ _
  case h_26 => exact keepsTime_request Server.keepsTime_setTime _ _ _
  case h_27 => exact keepsTime_request Server.keepsTime_syncToPulse _ _ _
  case h_30 => exact keepsTime_request Server.keepsTime_clearNotices _ _ _
  case h_31 => exact keepsTime_request Server.keepsTime_setNoticeMask _ _ _
  case h_32 => exact s.keepsTime_linkReset _ _
  case h_33 => exact keepsTime_request Server.keepsTime_unknown _ _ _
  all_goals exact keepsTime_request (Server.keepsTime_readForm _ _) _ _ _

theorem keepsTime_transfer (mosi : List Byte) : s.keepsTime (s.transfer mosi) := by
  unfold transfer
  split
  · exact .of_untouched
  · split
    · unfold requestTransfer
      split
      · exact s.keepsTime_serveFrame _
      · exact .of_untouched
    · split
      · exact .of_untouched
      · exact .of_untouched

end State

/-! ## The step -/

/-- Survey time lost with the backup domain: the clock UNSET by one of the two commands that say so. -/
def State.losesTime (s t : State) (c : Instr) : Prop :=
  (s.timeSound → t.timeSound) ∧ t.clock = none ∧ (c = .backupLostStartup ∨ c = .backupDomainLoss)

/-- Every event of a line, a unit, time or supply keeps survey time, or loses it with the backup
domain. -/
theorem event_keepsTime {c : Instr} (hr : c.request? = none) (s : State) :
    ∃ t, exec c s = .next t ∧ (s.keepsTime t ∨ s.losesTime t c) := by
  cases c
  case findNearScanEnd => exact ⟨_, rfl, .inl s.leavesTime_endScan.keeps.ite⟩
  case badRequestFrame => exact ⟨_, rfl, .inl (s.keepsTime_transfer _).whenRunning⟩
  case fetchTransfer n =>
    have hfetch : s.keepsTime (s.fetch n) := .of_untouched
    exact ⟨_, rfl, .inl hfetch.whenRunning⟩
  case statusTransfer => exact ⟨_, rfl, .inl (s.keepsTime_transfer _).whenRunning⟩
  case headFrame h b => exact ⟨_, rfl, .inl (s.leavesTime_receiveCharacter h b).keeps.whenRunning⟩
  case headLineCharacter h b =>
    exact ⟨_, rfl, .inl (s.leavesTime_receiveCharacter h b).keeps.whenRunning⟩
  case characterFramingError h =>
    exact ⟨_, rfl, .inl (s.leavesTime_framingError h).keeps.whenRunning⟩
  case frameBrokenOff h =>
    exact ⟨_, rfl, .inl (s.leavesTime_countCorrupt h _).keeps.ite.whenRunning⟩
  case headTimeout h => exact ⟨_, rfl, .inl (s.leavesTime_loseHead h).keeps.whenRunning⟩
  case settleCountReached h => exact ⟨_, rfl, .inl (s.leavesTime_settleReached h).keeps.whenRunning⟩
  case targetReached h => exact ⟨_, rfl, .inl (s.leavesTime_targetReached h).keeps.whenRunning⟩
  case settlingDeadline h =>
    exact ⟨_, rfl, .inl (s.leavesTime_failOccupation h _).keeps.ite.whenRunning⟩
  case capDeadline h => exact ⟨_, rfl, .inl (s.leavesTime_capIntegration h).keeps.ite.whenRunning⟩
  case tideEvaluationComplete =>
    exact ⟨_, rfl, .inl s.leavesTime_completeEvaluation.keeps.whenRunning⟩
  case driftApplyComplete => exact ⟨_, rfl, .inl s.leavesTime_endApply.keeps.whenRunning⟩
  case timePulse => exact ⟨_, rfl, .inl s.keepsTime_acceptPulse.ite.whenRunning⟩
  case pulseLoss => exact ⟨_, rfl, .inl s.keepsTime_losePulse.ite.whenRunning⟩
  case clockHoldAtMax => exact ⟨_, rfl, .inl s.keepsTime_hold⟩
  case partStart =>
    have hstart := State.keepsTime_start { s with vdd := true, resetLow := false }
    exact ⟨_, rfl, .inl ⟨hstart.sound, hstart.steady⟩⟩
  case backupLostStartup =>
    refine ⟨_, rfl, ?_⟩
    split
    · exact .inr ⟨s.timeSound_rebuildBackup, rfl, .inl rfl⟩
    · exact .inl (.refl s)
  case resetNAssert => exact ⟨_, rfl, .inl .of_untouched⟩
  case vddFail => exact ⟨_, rfl, .inl ⟨s.keepsTime_resetMain.sound, fun _ _ => rfl⟩⟩
  case backupDomainLoss =>
    exact ⟨_, rfl, .inr ⟨fun _ => State.timeSound_of_lost rfl rfl nofun, rfl, .inr rfl⟩⟩
  all_goals cases hr

/-- Every command keeps survey time, or loses it with the backup domain. -/
theorem exec_keepsTime {c : Instr} {s t : State} (h : exec c s = .next t) :
    s.keepsTime t ∨ s.losesTime t c := by
  cases hr : c.request? with
  | some r =>
    rw [exec_of_request hr] at h
    cases h
    exact .inl (s.keepsTime_serveFrame r)
  | none =>
    obtain ⟨t', ht, hk⟩ := event_keepsTime hr s
    rw [ht] at h
    cases h
    exact hk

theorem exec_timeSound {c : Instr} {s t : State} (hs : s.timeSound) (h : exec c s = .next t) :
    t.timeSound :=
  (exec_keepsTime h).elim (fun hk => hk.sound hs) fun ⟨hlost, _⟩ => hlost hs

/-- Settles O58: only the requests on time and the seconds pulse set the clock, and while an occupation is
OPEN the requests are BUSY and no set is pending for the pulse. -/
theorem surveyTimeUnbrokenWhileOpen : Obligations.SurveyTimeUnbrokenWhileOpen := by
  refine ⟨fun s t hs h => ?_, fun c s t hs ho h => ?_⟩
  · unfold step at h
    split at h
    · cases h
      exact s.timeSound_tick hs
    · next rest _ => exact exec_timeSound (s := s.withPending rest) hs h
  · exact (exec_keepsTime h).imp (fun hk => hk.steady hs ho) And.right

end Sys2Proof.Machine
end

section
/-! LINK_RESET (R178, R183, R194): the link IDLE from every state, BUSY in the start-up, nothing by a bad
frame. -/

namespace Sys2Proof.Machine

/-- The bytes of a LINK_RESET frame, its CRC-16 last (R198). -/
theorem requestFrame_linkReset (tag : Byte) : ∃ hi lo : Byte,
    requestFrame 32 tag [] = [Config.requestMarker, 32, tag, 0, 0, hi, lo]
      ∧ (crc16 [32, tag, 0, 0]).toNat = beNat [hi, lo] := by
  generalize hc : crc16 [32, tag, 0, 0] = c
  have hcrc : (crc16 (32 :: tag :: (beBytes 2 ([] : List Byte).length ++ []))).toNat = c.toNat :=
    congrArg BitVec.toNat hc
  refine ⟨_, _, ?_, (beNat_beBytes (n := 2) c.isLt).symm⟩
  rw [requestFrame, frameBody, hcrc]
  rfl

/-- Seven bytes that give a payload length of 0 are judged by the CRC-16 at their end (R183, R198). -/
theorem judgeFrame_of_no_payload (marker code tag hi lo : Byte) :
    judgeFrame [marker, code, tag, 0, 0, hi, lo]
      = if (crc16 [code, tag, 0, 0]).toNat = beNat [hi, lo] then some ⟨code, tag, []⟩ else none := by
  have hlength : fieldNat 3 2 [marker, code, tag, 0, 0, hi, lo] = 0 := by
    simp [fieldNat, fieldBytes, beNat]
  rw [judgeFrame, hlength, if_neg (by simp)]
  rfl

/-- A LINK_RESET frame with its last byte changed is bad (R183). -/
theorem judgeFrame_linkReset_damaged {tag b : Byte} (hb : (requestFrame 32 tag [])[6]? ≠ some b) :
    judgeFrame ((requestFrame 32 tag []).set 6 b) = none := by
  obtain ⟨hi, lo, hframe, hcrc⟩ := requestFrame_linkReset tag
  rw [hframe] at hb ⊢
  have hne : (crc16 [32, tag, 0, 0]).toNat ≠ beNat [hi, b] := by
    rw [hcrc]
    intro heq
    have hlo : lo.toNat = b.toNat := by simpa [beNat] using heq
    exact hb (congrArg some (BitVec.eq_of_toNat_eq hlo))
  exact (judgeFrame_of_no_payload _ 32 tag hi b).trans (if_neg hne)

/-- The marker makes a request transfer (R181). -/
theorem State.transfer_marker (s : State) (rest : List Byte) :
    s.transfer (Config.requestMarker :: rest) = s.requestTransfer (Config.requestMarker :: rest) := by
  rw [State.transfer, if_pos rfl]

/-- Settles O9: a LINK_RESET frame without payload is seen in every link state, and a changed CRC-16 byte
no longer matches the bytes it covers. -/
theorem linkResetReturnsToIdle : Obligations.LinkResetReturnsToIdle := by
  intro tag s hrun
  have hexec : exec (.linkReset tag []) s
      = .next (if s.startup then s.taken.respond tag (refusal .busy) else s.taken.resetLink) := by
    change Host.Outcome.next (if !s.running then s else _) = _
    rw [hrun]
    rfl
  refine ⟨fun hup => ?_, fun hup => ?_, fun b hb => ?_⟩
  · rw [hexec, if_neg (by simp [hup])]
    rfl
  · rw [hexec, if_pos hup]
    rfl
  · have hbad := judgeFrame_linkReset_damaged hb
    obtain ⟨hi, lo, hframe, -⟩ := requestFrame_linkReset tag
    rw [hframe, List.set_cons_succ] at hbad ⊢
    have hrejected := s.transfer_marker ([32, tag, 0, 0, hi, lo].set 5 b)
    rw [State.requestTransfer, hbad] at hrejected
    exact congrArg Host.Outcome.next ((State.whenRunning_of_running hrun _).trans hrejected)

end Sys2Proof.Machine
end

section
/-! STAGE_CALIBRATION: the set a payload carries is within the ranges of R163, a set within them is carried
without loss, and the payloads refused (R163 to R165, R199). -/

namespace Sys2Proof.Machine

/-! ## Fields beyond the first of a payload -/

theorem fieldBytes_skip {at_ n : Nat} {as : List Byte} (h : as.length ≤ at_) (cs : List Byte) :
    fieldBytes at_ n (as ++ cs) = fieldBytes (at_ - as.length) n cs := by
  rw [fieldBytes, fieldBytes, List.drop_append, List.drop_eq_nil_of_le h, List.nil_append]

theorem fieldNat_drop (k at_ n : Nat) (p : List Byte) :
    fieldNat at_ n (p.drop k) = fieldNat (k + at_) n p := by
  rw [fieldNat, fieldNat, fieldBytes, fieldBytes, List.drop_drop]

/-- A byte of a payload is the field of its one byte. -/
theorem toNat_getD (k : Nat) (p : List Byte) : (p.getD k 0).toNat = fieldNat k 1 p := by
  rw [fieldNat, fieldBytes, List.take_one, List.head?_drop, List.getD_eq_getElem?_getD]
  cases p[k]? <;> simp [beNat]

/-- A field after the bytes of another. -/
theorem fieldNat_after {at_ n : Nat} {as : List Byte} (h : as.length ≤ at_) (cs : List Byte) :
    fieldNat at_ n (as ++ cs) = fieldNat (at_ - as.length) n cs :=
  congrArg beNat (fieldBytes_skip h cs)

theorem fieldInt_after {at_ n : Nat} {as : List Byte} (h : as.length ≤ at_) (cs : List Byte) :
    fieldInt at_ n (as ++ cs) = fieldInt (at_ - as.length) n cs :=
  congrArg beInt (fieldBytes_skip h cs)

/-- A signed number that begins a payload is read back. -/
theorem fieldInt_beSignedBytes_append {n : Nat} {v : Int} (lo : -(256 ^ n : Nat) ≤ 2 * v)
    (hi : 2 * v < (256 ^ n : Nat)) (p : List Byte) : fieldInt 0 n (beSignedBytes n v ++ p) = v :=
  fieldInt_of (as := []) rfl lo hi

/-! ## Breakpoints -/

theorem length_flatMap_breakpointBytes (table : List Breakpoint) :
    (table.flatMap breakpointBytes).length = 7 * table.length := by
  induction table with
  | nil => rfl
  | cons b table ih =>
    rw [List.flatMap_cons, List.length_append, ih]
    simp [breakpointBytes]
    omega

/-- Breakpoints within their fields are read back (R199). -/
theorem readBreakpoints_flatMap {table : List Breakpoint}
    (h : ∀ b ∈ table, b.count ≤ 16777215 ∧ b.gravity ≤ 83886075) :
    readBreakpoints table.length (table.flatMap breakpointBytes) = table := by
  induction table with
  | nil => rfl
  | cons b table ih =>
    obtain ⟨hb, htable⟩ := List.forall_mem_cons.1 h
    obtain ⟨hcount, hgravity⟩ := hb
    have hdrop : (breakpointBytes b ++ table.flatMap breakpointBytes).drop 7
        = table.flatMap breakpointBytes := List.drop_left' (by simp [breakpointBytes])
    rw [List.length_cons, List.flatMap_cons, readBreakpoints, hdrop, ih htable, breakpointBytes,
      List.append_assoc, fieldNat_beBytes_append (by omega), fieldNat_after (by simp), length_beBytes,
      fieldNat_beBytes_append (by omega), clampNat_of_range (Nat.zero_le _) hgravity]

theorem length_readBreakpoints (n : Nat) (p : List Byte) : (readBreakpoints n p).length = n := by
  induction n generalizing p with
  | zero => rfl
  | succ n ih => rw [readBreakpoints, List.length_cons, ih]

/-- What is read as a breakpoint is within the ranges of R163. -/
theorem readBreakpoints_inRange (n : Nat) (p : List Byte) :
    ∀ b ∈ readBreakpoints n p, b.count ≤ 16777215 ∧ b.gravity ≤ 83886075 := by
  induction n generalizing p with
  | zero => nofun
  | succ n ih =>
    refine List.forall_mem_cons.2 ⟨⟨Nat.le_of_lt_succ (fieldNat_lt 0 3 p), ?_⟩, ih _⟩
    exact (clampNat_range (Nat.zero_le _) _).2

/-- The count of each breakpoint read. -/
theorem count_readBreakpoints {n i : Nat} (p : List Byte) (h : i < n) :
    ((readBreakpoints n p)[i]?).map Breakpoint.count = some (fieldNat (7 * i) 3 p) := by
  induction n generalizing p i with
  | zero => cases h
  | succ n ih =>
    cases i with
    | zero => rfl
    | succ i =>
      rw [readBreakpoints, List.getElem?_cons_succ, ih _ (Nat.lt_of_succ_lt_succ h), fieldNat_drop,
        Nat.mul_succ, Nat.add_comm]

/-- Rising counts rise at every place (R164 part 3). -/
theorem lt_of_risingCounts {table : List Breakpoint} (h : risingCounts table = true) {i : Nat}
    {b c : Breakpoint} (hb : table[i]? = some b) (hc : table[i + 1]? = some c) : b.count < c.count := by
  induction table generalizing i with
  | nil => cases hb
  | cons a table ih =>
    cases table with
    | nil => cases hc
    | cons a' table =>
      obtain ⟨hlt, hrest⟩ : a.count < a'.count ∧ risingCounts (a' :: table) = true := by
        simpa [risingCounts] using h
      cases i with
      | zero =>
        cases hb
        cases hc
        exact hlt
      | succ i => exact ih hrest hb hc

/-! ## The set of a payload -/

/-- What the checks of R164 let through. -/
theorem stageOperands_eq_some {p : List Byte} {h : Head} {set : CalibrationSet} :
    stageOperands p = some (h, set) ↔
      29 ≤ p.length ∧ Head.ofCode (p.getD 0 0) = some h
        ∧ 2 ≤ (p.getD 28 0).toNat ∧ (p.getD 28 0).toNat ≤ 24
        ∧ p.length = 29 + 7 * (p.getD 28 0).toNat
        ∧ risingCounts (clampedSet p).table = true ∧ clampedSet p = set := by
  unfold stageOperands
  generalize (p.getD 28 0).toNat = n
  dsimp only
  split
  · exact ⟨nofun, fun ⟨hlong, _⟩ => by omega⟩
  · next hlong =>
    split
    · next hhead => exact ⟨nofun, fun ⟨_, hhead', _⟩ => nomatch hhead.symm.trans hhead'⟩
    · next h' hhead =>
      split
      · exact ⟨nofun, fun ⟨_, _, h2, h24, hlen, _⟩ => by omega⟩
      · obtain ⟨h2, h24, hlen⟩ : 2 ≤ n ∧ n ≤ 24 ∧ p.length = 29 + 7 * n := by omega
        split
        · next hrise =>
          constructor
          · rintro ⟨⟩
            exact ⟨Nat.not_lt.1 hlong, hhead, h2, h24, hlen, hrise, rfl⟩
          · rintro ⟨_, hhead', _, _, _, _, rfl⟩
            cases hhead.symm.trans hhead'
            rfl
        · next hrise => exact ⟨nofun, fun ⟨_, _, _, _, _, hrise', _⟩ => absurd hrise' hrise⟩

theorem fieldInt16_range (at_ : Nat) (p : List Byte) :
    -32768 ≤ fieldInt at_ 2 p ∧ fieldInt at_ 2 p ≤ 32767 := by
  have h := fieldInt_range at_ 2 p
  omega

theorem length_table_clampedSet (p : List Byte) :
    (clampedSet p).table.length = (p.getD 28 0).toNat :=
  length_readBreakpoints _ _

/-- Whatever the payload, the fields are brought into the ranges of R163 (R165). -/
theorem clampedSet_inRange {p : List Byte} (h2 : 2 ≤ (p.getD 28 0).toNat)
    (h24 : (p.getD 28 0).toNat ≤ 24) (hrise : risingCounts (clampedSet p).table = true) :
    (clampedSet p).inRange := by
  have hlength := length_table_clampedSet p
  have htable : ∀ b ∈ (clampedSet p).table, b.count ≤ 16777215 ∧ b.gravity ≤ 83886075 :=
    readBreakpoints_inRange _ _
  have hgain (v : Nat) : 1 ≤ clampNat 1 4095 v ∧ clampNat 1 4095 v ≤ 4095 :=
    clampNat_range (by decide) v
  have hk (v : Int) : -32767 ≤ clampInt (-32767) 32767 v ∧ clampInt (-32767) 32767 v ≤ 32767 :=
    clampInt_range (by decide) v
  have htilt : 100 ≤ (clampedSet p).tiltWindow ∧ (clampedSet p).tiltWindow ≤ 20000 :=
    clampNat_range (by decide) _
  have hsettle : 1 ≤ (clampedSet p).settleWindow
      ∧ (clampedSet p).settleWindow ≤ (clampedSet p).tiltWindow :=
    clampNat_range (Nat.le_trans (by decide) htilt.1) _
  have hbandN : 1 ≤ (clampedSet p).bandN ∧ (clampedSet p).bandN ≤ 1000 :=
    clampNat_range (by decide) _
  have hbandE : (clampedSet p).bandN ≤ (clampedSet p).bandE ∧ (clampedSet p).bandE ≤ 10000 :=
    clampNat_range (Nat.le_trans hbandN.2 (by decide)) _
  have hcount : 10 ≤ (clampedSet p).settleCount ∧ (clampedSet p).settleCount ≤ 1000 :=
    clampNat_range (by decide) _
  have htimeout : 30 ≤ (clampedSet p).settlingTimeout ∧ (clampedSet p).settlingTimeout ≤ 3600 :=
    clampNat_range (by decide) _
  have hhead : 5 ≤ (clampedSet p).headTimeout ∧ (clampedSet p).headTimeout ≤ 100 :=
    clampNat_range (by decide) _
  exact ⟨hlength ▸ h2, hlength ▸ h24, hrise, htable, (fieldInt16_range 1 p).1,
    (fieldInt16_range 1 p).2, (fieldInt16_range 3 p).1, (fieldInt16_range 3 p).2, (hgain _).1,
    (hgain _).2, (hgain _).1, (hgain _).2, htilt.1, htilt.2, hsettle.1, hsettle.2,
    (fieldInt16_range 13 p).1, (fieldInt16_range 13 p).2, hbandN.1, hbandN.2, hbandE.1, hbandE.2,
    (hk _).1, (hk _).2, (hk _).1, (hk _).2, hcount.1, hcount.2, htimeout.1, htimeout.2, hhead.1,
    hhead.2⟩

/-- What is staged is within the ranges of R163, whatever the payload carries (R165). -/
theorem inRange_of_stageOperands {p : List Byte} {h : Head} {set : CalibrationSet}
    (hp : stageOperands p = some (h, set)) : set.inRange := by
  obtain ⟨-, -, h2, h24, -, hrise, rfl⟩ := stageOperands_eq_some.1 hp
  exact clampedSet_inRange h2 h24 hrise

/-! ## The payload of a set -/

theorem length_calibrationBytes (set : CalibrationSet) :
    (calibrationBytes set).length = 28 + 7 * set.table.length := by
  simp only [calibrationBytes, List.length_append, length_beBytes, length_beSignedBytes,
    length_flatMap_breakpointBytes]

theorem length_stagePayload (h : Head) (set : CalibrationSet) :
    (stagePayload h set).length = 29 + 7 * set.table.length := by
  rw [stagePayload, List.length_append, length_calibrationBytes, length_beBytes]
  omega

theorem drop_stagePayload (h : Head) (set : CalibrationSet) :
    (stagePayload h set).drop 29 = set.table.flatMap breakpointBytes := by
  rw [stagePayload, calibrationBytes, ← List.append_assoc]
  exact List.drop_left' (by simp)

/-- A set within the ranges of R163 is read back from the payload that carries it (R199). -/
theorem clampedSet_stagePayload (h : Head) {set : CalibrationSet} (hr : set.inRange) :
    clampedSet (stagePayload h set) = set := by
  obtain ⟨-, hlength, -, htable, hzeroX, hzeroX', hzeroY, hzeroY', hgainX, hgainX', hgainY, hgainY',
    htilt, htilt', hsettle, hsettle', hzeroT, hzeroT', hbandN, hbandN', hbandE, hbandE', hkN, hkN', hkE,
    hkE', hcount, hcount', hsettling, hsettling', hhead, hhead'⟩ := hr
  simp only [clampedSet, toNat_getD, drop_stagePayload]
  simp only [stagePayload, calibrationBytes, List.append_assoc]
  simp only [fieldNat_after, fieldInt_after, length_beBytes, length_beSignedBytes, Nat.reduceLeDiff,
    Nat.reduceSub, Nat.le_refl, Nat.sub_self]
  simp (disch := omega) only [fieldNat_beBytes_append, fieldInt_beSignedBytes_append, clampNat_of_range,
    clampInt_of_range, readBreakpoints_flatMap htable]

theorem stageOperands_stagePayload (h : Head) {set : CalibrationSet} (hr : set.inRange) :
    stageOperands (stagePayload h set) = some (h, set) := by
  obtain ⟨h2, h24, hrise, -⟩ := id hr
  have hset := clampedSet_stagePayload h hr
  have hcount := length_table_clampedSet (stagePayload h set)
  rw [hset] at hcount
  have hhead : (stagePayload h set).getD 0 0 = BitVec.ofNat 8 h.code := by
    rw [stagePayload, beBytes_one, List.singleton_append, List.getD_cons_zero]
  rw [stageOperands_eq_some, hset, ← hcount, hhead, length_stagePayload]
  exact ⟨Nat.le_add_right _ _, Head.ofCode_code h, h2, h24, rfl, hrise, rfl⟩

/-! ## The request -/

theorem exec_stageCalibration {s : State} (hs : s.serves) {p : List Byte} (hp : p.length ≤ 512)
    (tag : Byte) : exec (.stageCalibration tag p) s
      = .next ((stageCalibration p s.taken).1.respond tag (stageCalibration p s.taken).2) :=
  congrArg Host.Outcome.next (State.receiveFrame_of_serves hs hp tag _)

/-- The payloads of R164 that are refused. -/
theorem stageOperands_eq_none {p : List Byte} (h : let n := (p.getD 28 0).toNat
    p.length < 29 ∨ 3 < (p.getD 0 0).toNat ∨ n < 2 ∨ 24 < n ∨ p.length ≠ 29 + 7 * n
      ∨ ∃ i, i + 1 < n ∧ fieldNat (29 + 7 * (i + 1)) 3 p ≤ fieldNat (29 + 7 * i) 3 p) :
    stageOperands p = none := by
  refine Option.eq_none_iff_forall_ne_some.2 fun ⟨head, set⟩ hsome => ?_
  obtain ⟨hlong, hhead, h2, h24, hlen, hrise, -⟩ := stageOperands_eq_some.1 hsome
  obtain h | h | h | h | h | ⟨i, hi, hle⟩ := h
  · omega
  · cases (Head.ofCode_eq_none.2 h).symm.trans hhead
  · omega
  · omega
  · omega
  · have hread {j : Nat} (hj : j < (p.getD 28 0).toNat) :
        ∃ b, (clampedSet p).table[j]? = some b ∧ b.count = fieldNat (29 + 7 * j) 3 p := by
      have hcount := count_readBreakpoints (p.drop 29) hj
      rw [fieldNat_drop] at hcount
      exact Option.map_eq_some_iff.1 hcount
    obtain ⟨b, hb, hbc⟩ := hread (Nat.lt_of_succ_lt hi)
    obtain ⟨c, hc, hcc⟩ := hread hi
    have hlt := lt_of_risingCounts hrise hb hc
    omega

/-- Settles O47: each field of the payload is read where it stands, and in range it is not clamped. -/
theorem stagedSetRoundTrip : Obligations.StagedSetRoundTrip := by
  refine ⟨fun tag h set hr => ⟨stageOperands_stagePayload h hr, fun s hs => ?_⟩,
    fun p h set => inRange_of_stageOperands, fun tag p s hs hp hbad => ?_⟩
  · obtain ⟨h2, h24, -⟩ := id hr
    rw [exec_stageCalibration hs (by rw [length_stagePayload]; omega), stageCalibration,
      stageOperands_stagePayload h hr]
    rfl
  · rw [State.refuses, exec_stageCalibration hs hp, stageCalibration, stageOperands_eq_none hbad]
    rfl

end Sys2Proof.Machine
end

section
/-! The Coefficient Store and the Factory Block under each operation: which leave them, and that those which
write them keep every field within its range (R108, R162 to R170, R175). -/

namespace Sys2Proof.Machine

/-! ## The fields that R162 bounds -/

/-- The Coefficient Store's sets, constituents and constants, and the Factory Block. -/
structure Coefficients where
  active : PerHead CalibrationSet
  staged : PerHead (Option CalibrationSet)
  constituents : List Constituent
  constants : SurveyConstants
  factory : FactoryBlock

def State.coefficients (s : State) : Coefficients :=
  ⟨s.active, s.staged, s.constituents, s.constants, s.factory⟩

/-- Only these fields decide whether every coefficient is in range. -/
theorem State.coefficientsInRange.of_eq {s t : State} (hs : s.coefficientsInRange)
    (h : t.coefficients = s.coefficients) : t.coefficientsInRange := by
  obtain ⟨ha, hst, hci, hco, hf⟩ := Coefficients.mk.inj h
  rw [State.coefficientsInRange, ha, hst, hci, hco, hf]
  exact hs

/-- What is done on a condition keeps the coefficients in range where it does when done. -/
theorem State.coefficientsInRange.ite {s t : State} (hs : s.coefficientsInRange) {c : Prop}
    {_ : Decidable c} (ht : t.coefficientsInRange) : (if c then t else s).coefficientsInRange := by
  split
  · exact ht
  · exact hs

/-! ## Operations that leave the coefficients -/

namespace State

variable (s : State)

theorem coefficients_revise (b : Bool) : (s.revise b).coefficients = s.coefficients := by
  obtain ⟨_, _, _, _, _, hf⟩ := s.revise_frame b
  rw [hf]
  rfl

theorem coefficients_queueAll (is : List RevItem) :
    (s.queueAll is).coefficients = s.coefficients := by
  obtain ⟨_, _, _, hf⟩ := queueAll_frame is s
  rw [hf]
  rfl

theorem coefficients_failOccupation (h : Head) (c : FailCause) :
    (s.failOccupation h c).coefficients = s.coefficients := by
  obtain ⟨_, _, _, _, hf⟩ := s.failOccupation_frame h c
  rw [hf]
  rfl

theorem coefficients_withdraw (src : TideSource) :
    (s.withdraw src).coefficients = s.coefficients := by
  obtain ⟨_, hf⟩ := s.withdraw_frame src
  rw [hf]
  rfl

theorem coefficients_resetHead (h : Head) : (s.resetHead h).coefficients = s.coefficients :=
  (coefficients_withdraw _ _).trans (coefficients_failOccupation _ h _)

theorem coefficients_enterIntegrating (h : Head) (t : TimeMs) :
    (s.enterIntegrating h t).coefficients = s.coefficients := by
  obtain ⟨_, hf⟩ := s.enterIntegrating_frame h t
  rw [hf]
  rfl

theorem coefficients_settleReached (h : Head) :
    (s.settleReached h).coefficients = s.coefficients := by
  obtain ⟨_, hf⟩ := s.settleReached_frame h
  rw [hf]
  rfl

theorem coefficients_targetReached (h : Head) :
    (s.targetReached h).coefficients = s.coefficients := by
  obtain ⟨_, _, _, _, _, _, _, _, hf⟩ := s.targetReached_frame h
  rw [hf]
  rfl

theorem coefficients_stopIntegration (h : Head) :
    (s.stopIntegration h).coefficients = s.coefficients := by
  obtain ⟨_, _, _, _, _, _, _, _, hf⟩ := s.stopIntegration_frame h
  rw [hf]
  rfl

theorem coefficients_capIntegration (h : Head) :
    (s.capIntegration h).coefficients = s.coefficients := by
  obtain ⟨_, _, _, _, _, _, _, _, hf⟩ := s.capIntegration_frame h
  rw [hf]
  rfl

theorem coefficients_completeEvaluation : s.completeEvaluation.coefficients = s.coefficients := by
  obtain ⟨_, _, _, _, _, _, _, _, hf⟩ := s.completeEvaluation_frame
  rw [hf]
  rfl

theorem coefficients_endApply : s.endApply.coefficients = s.coefficients := by
  unfold endApply
  split
  · next k _ =>
    obtain ⟨_, _, _, _, _, hf⟩ := s.completeApply_frame k
    rw [coefficients_revise, hf]
    rfl
  · rfl

theorem coefficients_receiveCharacter (h : Head) (b : Byte) :
    (s.receiveCharacter h b).coefficients = s.coefficients := by
  obtain ⟨_, _, _, _, _, _, _, _, _, hf⟩ := s.receiveCharacter_frame h b
  rw [hf]
  rfl

theorem coefficients_countCorrupt (h : Head) (r : Receiver) :
    (s.countCorrupt h r).coefficients = s.coefficients := by
  obtain ⟨_, _, hf⟩ := s.countCorrupt_frame h r
  rw [hf]
  rfl

theorem coefficients_framingError (h : Head) :
    (s.framingError h).coefficients = s.coefficients := by
  unfold framingError
  dsimp only
  split
  · rfl
  · exact s.coefficients_countCorrupt h _

theorem coefficients_loseHead (h : Head) : (s.loseHead h).coefficients = s.coefficients := by
  obtain ⟨_, _, _, hf⟩ := s.loseHead_frame h
  rw [hf]
  rfl

theorem coefficients_acceptPulse : s.acceptPulse.coefficients = s.coefficients := by
  unfold acceptPulse
  dsimp only
  split
  · rfl
  · rfl

theorem coefficients_endScan : s.endScan.coefficients = s.coefficients := by
  unfold endScan
  split
  · rfl
  · rfl

theorem coefficients_applyEdit (slot : Nat) (st : Station) (e : StationEdit) :
    (s.applyEdit slot st e).coefficients = s.coefficients := by
  cases hm : st.movedBy e with
  | true =>
    obtain ⟨_, _, _, _, _, _, hf⟩ := applyEdit_of_moved_frame (s := s) (k := slot) hm
    rw [hf]
    rfl
  | false =>
    rw [applyEdit, hm]
    rfl

theorem coefficients_retire (slot : Nat) (chain : List Nat) :
    (s.retire slot chain).coefficients = s.coefficients := by
  obtain ⟨_, _, _, _, _, hf⟩ := s.retire_frame slot chain
  rw [hf]
  rfl

theorem coefficients_clear (part : Partition) : (s.clear part).coefficients = s.coefficients := by
  rw [clear_eq]
  rfl

theorem coefficients_setIncluded (n : Nat) (o : Occupation) (b : Bool) :
    (s.setIncluded n o b).coefficients = s.coefficients := by
  obtain ⟨_, _, _, _, _, hf⟩ := s.setIncluded_frame n o b
  rw [hf]
  rfl

theorem coefficients_delete (n : Nat) (o : Occupation) :
    (s.delete n o).coefficients = s.coefficients := by
  obtain ⟨_, _, _, _, _, hf⟩ := s.delete_frame n o
  rw [hf]
  rfl

theorem coefficients_abandon (k : Nat) : (s.abandon k).coefficients = s.coefficients := by
  obtain ⟨_, _, _, _, _, _, hf⟩ := s.abandon_frame k
  rw [hf]
  rfl

theorem coefficients_restart : s.restart.coefficients = s.coefficients :=
  (coefficients_revise _ false).trans (coefficients_queueAll s.interrupt s.interrupt.owedItems)

theorem coefficients_start : s.start.coefficients = s.coefficients := by
  unfold start
  dsimp only
  split
  · exact s.resetMain.coefficients_restart
  · rfl

end State

/-! ## Operations that write coefficients -/

theorem constituentOf_inRange (species : Species) (p : List Byte) :
    (constituentOf species p).inRange := by
  have hamplitude := clampInt_range (lo := -8191) (hi := 8191) (by decide) (fieldInt 13 2 p)
  exact ⟨fieldNat_lt 3 6 p, fieldNat_lt 9 4 p, hamplitude.1, hamplitude.2,
    (clampNat_range (Nat.zero_le _) _).2⟩

theorem constituentsInRange.set {cs : List Constituent} (h : constituentsInRange cs) {c : Constituent}
    (hc : c.inRange) (i : Nat) : constituentsInRange (cs.set i c) := by
  obtain ⟨hlength, hall⟩ := h
  refine ⟨by rw [List.length_set, hlength], fun d hd => ?_⟩
  obtain hd | rfl := List.mem_or_eq_of_mem_set hd
  · exact hall d hd
  · exact hc

theorem disabledConstituents_inRange : constituentsInRange disabledConstituents := by
  unfold constituentsInRange Constituent.inRange
  decide +kernel

/-- One set in range for every head. -/
theorem perHead_inRange {set : CalibrationSet} (h : set.inRange) (head : Head) :
    ((perHead set).get head).inRange :=
  (get_perHead set head).symm ▸ h

/-- With nothing STAGED no STAGED set is out of range. -/
theorem unstaged_inRange (head : Head) (set : CalibrationSet)
    (h : (perHead none).get head = some set) : set.inRange := by
  cases (get_perHead none head).symm.trans h

/-- A carried constant is clamped into its range, and one that is not carried stays (R170). -/
theorem SurveyConstants.inRange.carry {c : SurveyConstants} (h : c.inRange) (p : List Byte) :
    (c.carry (.ofPayload p)).inRange := by
  obtain ⟨hdrift, hdrift', hspread, hspread', hpulse, hpulse'⟩ := h
  have bounded {hi v old : Nat} {b : Bool} (hhi : 1 ≤ hi) (hold : 1 ≤ old ∧ old ≤ hi) :
      1 ≤ (if b then some (clampNat 1 hi v) else none).getD old
        ∧ (if b then some (clampNat 1 hi v) else none).getD old ≤ hi := by
    cases b
    · exact hold
    · exact clampNat_range hhi v
  obtain ⟨hd, hd'⟩ := bounded (hi := 655360) (v := fieldNat 1 4 p) (b := (p.getD 0 0).getLsbD 0)
    (by decide) ⟨hdrift, hdrift'⟩
  obtain ⟨hs, hs'⟩ := bounded (hi := 100000) (v := fieldNat 5 4 p) (b := (p.getD 0 0).getLsbD 1)
    (by decide) ⟨hspread, hspread'⟩
  obtain ⟨hp, hp'⟩ := bounded (hi := 200) (v := fieldNat 9 2 p) (b := (p.getD 0 0).getLsbD 2)
    (by decide) ⟨hpulse, hpulse'⟩
  exact ⟨hd, hd', hs, hs', hp, hp'⟩

namespace State.coefficientsInRange

variable {s : State} (hs : s.coefficientsInRange)
include hs

/-- A set in range is staged (R165). -/
theorem stage {set : CalibrationSet} (hset : set.inRange) (h : Head) :
    { s with staged := s.staged.set h (some set) }.coefficientsInRange := by
  obtain ⟨hactive, hstaged, hrest⟩ := hs
  refine ⟨hactive, fun h' set' h'' => ?_, hrest⟩
  rw [PerHead.get_set] at h''
  split at h''
  · exact Option.some.inj h'' ▸ hset
  · exact hstaged h' set' h''

/-- The STAGED set that becomes ACTIVE is in range (R166). -/
theorem applyStaged (h : Head) : (s.applyStaged h).coefficientsInRange := by
  unfold State.applyStaged
  split
  · next set happ =>
    obtain ⟨hactive, hstaged, hrest⟩ := hs
    have hset : set.inRange := by
      unfold State.applicable at happ
      split at happ
      · next hst _ => exact hstaged h set (happ ▸ hst)
      · cases happ
    refine ⟨fun h' => ?_, fun h' set' h'' => ?_, hrest⟩
    · rw [setNotice_active, PerHead.get_set]
      split
      · exact hset
      · exact hactive h'
    · rw [setNotice_staged, PerHead.get_set] at h''
      split at h''
      · cases h''
      · exact hstaged h' set' h''
  · exact hs

/-- An opening writes no coefficient but the sets it applies (R50). -/
theorem openOccupation (q : Opening) : (s.openOccupation q).coefficientsInRange :=
  (hs.applyStaged q.head).of_eq (coefficients_loseHead _ q.head)

theorem writeEntry (i : Nat) {c : Constituent} (hc : c.inRange) :
    (s.writeEntry i c).coefficientsInRange := by
  obtain ⟨_, _, _, _, _, hf⟩ := s.writeEntry_frame i c
  rw [hf]
  obtain ⟨hactive, hstaged, hconstituents, hrest⟩ := hs
  exact ⟨hactive, hstaged, hconstituents.set hc i, hrest⟩

theorem writeConstants (p : List Byte) : (s.writeConstants (.ofPayload p)).coefficientsInRange := by
  obtain ⟨hactive, hstaged, hconstituents, hconstants, hfactory⟩ := hs
  have hwritten : { s with constants := s.constants.carry (.ofPayload p) }.coefficientsInRange :=
    ⟨hactive, hstaged, hconstituents, hconstants.carry p, hfactory⟩
  exact hwritten.of_eq ((coefficients_revise _ _).trans (coefficients_queueAll _ _))

/-- The defaults of the Factory Block and those of the fixed logic are in range (R175 to R177). -/
theorem rebuildBackup : s.rebuildBackup.coefficientsInRange := by
  obtain ⟨-, -, -, -, hfactory⟩ := id hs
  obtain ⟨hconstituents, hconstants, htemplate⟩ := id hfactory
  unfold State.rebuildBackup State.loadDefaults
  split
  · exact ⟨perHead_inRange htemplate, unstaged_inRange, hconstituents, hconstants, hfactory⟩
  · exact ⟨perHead_inRange calibrationTemplate_inRange, unstaged_inRange, disabledConstituents_inRange,
      defaultConstants_inRange, hfactory⟩

/-- The backup domain is shown as cleared, its coefficients at the fixed logic's defaults (R172; log 10). -/
theorem loseBackup : s.loseBackup.coefficientsInRange := by
  obtain ⟨-, -, -, -, hfactory⟩ := hs
  exact ⟨perHead_inRange calibrationTemplate_inRange, unstaged_inRange, disabledConstituents_inRange,
    defaultConstants_inRange, hfactory⟩

end State.coefficientsInRange

end Sys2Proof.Machine
end

section
/-! Every command, and so every step, keeps every coefficient within its range (R162). -/

namespace Sys2Proof.Machine

/-! ## The owners of the requests -/

/-- Serving keeps the coefficients in range. -/
def Server.KeepsRanges (serve : Server) : Prop :=
  ∀ (p : List Byte) (s : State), s.coefficientsInRange → (serve p s).1.coefficientsInRange

/-- Serving leaves the coefficients as they are. -/
def Server.LeavesCoefficients (serve : Server) : Prop :=
  ∀ (p : List Byte) (s : State), (serve p s).1.coefficients = s.coefficients

namespace Server

theorem LeavesCoefficients.keepsRanges {serve : Server} (h : serve.LeavesCoefficients) :
    serve.KeepsRanges :=
  fun p s hs => hs.of_eq (h p s)

theorem keepsRanges_fixedForm {n : Nat} {serve : Server} (h : serve.KeepsRanges) :
    KeepsRanges (fixedForm n serve) := by
  intro p s hs
  unfold fixedForm
  split
  · exact h p s hs
  · exact hs

theorem leavesCoefficients_fixedForm {n : Nat} {serve : Server} (h : serve.LeavesCoefficients) :
    LeavesCoefficients (fixedForm n serve) := by
  intro p s
  unfold fixedForm
  split
  · exact h p s
  · rfl

theorem leavesCoefficients_readForm (n : Nat) (answer : List Byte → State → Answer) :
    LeavesCoefficients (readForm n answer) :=
  leavesCoefficients_fixedForm fun _ _ => rfl

theorem leavesCoefficients_onHead {serve : Head → State → State × Answer}
    (h : ∀ (h : Head) (s : State), (serve h s).1.coefficients = s.coefficients) :
    LeavesCoefficients (onHead serve) :=
  leavesCoefficients_fixedForm fun p s => by
    split
    · rfl
    · exact h _ s

/-! ### The Station Store -/

theorem leavesCoefficients_declareStation : LeavesCoefficients serveDeclareStation :=
  leavesCoefficients_fixedForm fun p s => by
    unfold declareStation
    split
    · split
      · rfl
      · split
        · rfl
        · rfl
    · rfl

theorem leavesCoefficients_editStation : LeavesCoefficients serveEditStation :=
  leavesCoefficients_fixedForm fun p s => by
    unfold editStation
    split
    · rfl
    · split
      · rfl
      · split
        · rfl
        · split
          · rfl
          · exact s.coefficients_applyEdit _ _ _

theorem leavesCoefficients_retireStation : LeavesCoefficients serveRetireStation :=
  leavesCoefficients_fixedForm fun p s => by
    unfold retireStation
    split
    · rfl
    · split
      · rfl
      · exact s.coefficients_retire _ _

theorem leavesCoefficients_clearSurvey : LeavesCoefficients serveClearSurvey :=
  leavesCoefficients_fixedForm fun p s => by
    unfold clearSurvey
    split
    · rfl
    · split
      · rfl
      · exact s.coefficients_clear _

/-! ### Occupations and loops -/

theorem keepsRanges_openOccupation : KeepsRanges serveOpenOccupation :=
  keepsRanges_fixedForm fun p s hs => by
    unfold openOccupation
    split
    · exact hs
    · exact hs.openOccupation _

theorem leavesCoefficients_forceIntegrate : LeavesCoefficients serveForceIntegrate :=
  leavesCoefficients_onHead fun h s => by
    unfold forceIntegrate
    split
    · exact s.coefficients_enterIntegrating h _
    · rfl

theorem leavesCoefficients_stopOccupation : LeavesCoefficients serveStopOccupation :=
  leavesCoefficients_onHead fun h s => by
    unfold stopOccupation
    split
    · exact s.coefficients_stopIntegration h
    · rfl

theorem leavesCoefficients_cancelOccupation : LeavesCoefficients serveCancelOccupation :=
  leavesCoefficients_onHead fun h s => by
    unfold cancelOccupation
    split
    · exact s.coefficients_failOccupation h _
    · rfl

theorem leavesCoefficients_includeRequest (b : Bool) :
    LeavesCoefficients (fixedForm 2 fun p s => includeRequest b (fieldNat 0 2 p) s) :=
  leavesCoefficients_fixedForm fun p s => by
    unfold includeRequest
    split
    · rfl
    · split
      · exact s.coefficients_setIncluded _ _ b
      · rfl

theorem leavesCoefficients_deleteOccupation : LeavesCoefficients serveDeleteOccupation :=
  leavesCoefficients_fixedForm fun p s => by
    unfold deleteOccupation
    split
    · rfl
    · split
      · rfl
      · exact s.coefficients_delete _ _

theorem leavesCoefficients_abandonLoop : LeavesCoefficients serveAbandonLoop :=
  leavesCoefficients_fixedForm fun p s => by
    unfold abandonLoop
    split
    · rfl
    · exact (State.coefficients_revise _ _).trans (s.coefficients_abandon _)

theorem leavesCoefficients_releaseLoop : LeavesCoefficients serveReleaseLoop :=
  leavesCoefficients_fixedForm fun p s => by
    unfold releaseLoop
    split
    · rfl
    · split
      · rfl
      · rfl

/-! ### Heads and coefficients -/

theorem leavesCoefficients_headReset : LeavesCoefficients serveHeadReset :=
  leavesCoefficients_fixedForm fun p s => by
    unfold headReset
    split
    · rfl
    · exact s.coefficients_resetHead _

theorem keepsRanges_stageCalibration : KeepsRanges serveStageCalibration := by
  intro p s hs
  unfold serveStageCalibration stageCalibration
  split
  · exact hs
  · next hset => exact hs.stage (inRange_of_stageOperands hset) _

theorem keepsRanges_writeConstituent : KeepsRanges serveWriteConstituent :=
  keepsRanges_fixedForm fun p s hs => by
    unfold writeConstituent
    dsimp only
    split
    · exact hs
    · split
      · exact hs
      · exact hs.writeEntry _ (constituentOf_inRange _ p)

theorem keepsRanges_setConstants : KeepsRanges serveSetConstants :=
  keepsRanges_fixedForm fun p _ hs => hs.writeConstants p

/-! ### The clock and the link -/

theorem leavesCoefficients_setTime : LeavesCoefficients serveSetTime :=
  leavesCoefficients_fixedForm fun p s => by
    unfold setTime
    split
    · rfl
    · split
      · rfl
      · rfl

theorem leavesCoefficients_syncToPulse : LeavesCoefficients serveSyncToPulse :=
  leavesCoefficients_fixedForm fun p s => by
    unfold syncToPulse
    split
    · rfl
    · rfl

theorem leavesCoefficients_clearNotices : LeavesCoefficients serveClearNotices :=
  leavesCoefficients_fixedForm fun _ _ => rfl

theorem leavesCoefficients_setNoticeMask : LeavesCoefficients serveSetNoticeMask :=
  leavesCoefficients_fixedForm fun _ _ => rfl

theorem leavesCoefficients_unknown : LeavesCoefficients serveUnknown := fun _ _ => rfl

end Server

/-! ## Frames and transfers -/

namespace State.coefficientsInRange

variable {s : State} (hs : s.coefficientsInRange)
include hs

theorem receiveFrame {act : State → State} (hact : (act s.taken).coefficientsInRange) (tag : Byte)
    (p : List Byte) : (s.receiveFrame tag p act).coefficientsInRange := by
  obtain h | h | h | h | h := s.receiveFrame_cases tag p act
  case inr.inr.inr.inr =>
    rw [h]
    exact hact
  all_goals
    rw [h]
    exact hs

theorem request {serve : Server} (hserve : serve.KeepsRanges) (tag : Byte) (p : List Byte) :
    (s.request tag p serve).coefficientsInRange :=
  hs.receiveFrame (act := fun s' => (serve p s').1.respond tag (serve p s').2)
    (hserve p s.taken hs) tag p

/-- An owner that leaves the coefficients. -/
theorem requestOf {serve : Server} (hserve : serve.LeavesCoefficients) (tag : Byte) (p : List Byte) :
    (s.request tag p serve).coefficientsInRange :=
  hs.request hserve.keepsRanges tag p

theorem requestFindNear (tag : Byte) (p : List Byte) :
    (s.requestFindNear tag p).coefficientsInRange := by
  obtain ⟨_, _, _, _, hf⟩ := s.requestFindNear_frame tag p
  rw [hf]
  exact hs

theorem linkReset (tag : Byte) (p : List Byte) : (s.linkReset tag p).coefficientsInRange := by
  unfold State.linkReset
  split
  · split
    · exact hs
    · split
      · exact hs
      · exact hs
  · exact hs.requestOf (serve := fun _ s' => (s', refusal .badField)) (fun _ _ => rfl) tag p

/-- A good request frame keeps the coefficients in range, whatever its code. -/
theorem serveFrame (r : Request) : (s.serveFrame r).coefficientsInRange := by
  unfold State.serveFrame
  split
  case h_1 => exact hs.requestOf Server.leavesCoefficients_declareStation _ _
  case h_2 => exact hs.requestOf Server.leavesCoefficients_editStation _ _
  case h_5 => exact hs.requestFindNear _ _
  case h_6 => exact hs.requestOf Server.leavesCoefficients_retireStation _ _
  case h_7 => exact hs.requestOf Server.leavesCoefficients_clearSurvey _ _
  case h_8 => exact hs.request Server.keepsRanges_openOccupation _ _
  case h_9 => exact hs.requestOf Server.leavesCoefficients_forceIntegrate _ _
  case h_10 => exact hs.requestOf Server.leavesCoefficients_stopOccupation _ _
  case h_11 => exact hs.requestOf Server.leavesCoefficients_cancelOccupation _ _
  case h_13 => exact hs.requestOf (Server.leavesCoefficients_includeRequest false) _ _
  case h_14 => exact hs.requestOf (Server.leavesCoefficients_includeRequest true) _ _
  case h_15 => exact hs.requestOf Server.leavesCoefficients_deleteOccupation _ _
  case h_17 => exact hs.requestOf Server.leavesCoefficients_abandonLoop _ _
  case h_18 => exact hs.requestOf Server.leavesCoefficients_releaseLoop _ _
  case h_20 => exact hs.requestOf Server.leavesCoefficients_headReset _ _
  case h_21 => exact hs.request Server.keepsRanges_stageCalibration _ _
  case h_23 => exact hs.request Server.keepsRanges_writeConstituent _ _
  case h_25 => exact hs.request Server.keepsRanges_setConstants _ _
  case h_26 => exact hs.requestOf Server.leavesCoefficients_setTime _ _
  case h_27 => exact hs.requestOf Server.leavesCoefficients_syncToPulse _ _
  case h_30 => exact hs.requestOf Server.leavesCoefficients_clearNotices _ _
  case h_31 => exact hs.requestOf Server.leavesCoefficients_setNoticeMask _ _
  case h_32 => exact hs.linkReset _ _
  case h_33 => exact hs.requestOf Server.leavesCoefficients_unknown _ _
  all_goals exact hs.requestOf (Server.leavesCoefficients_readForm _ _) _ _

theorem transfer (mosi : List Byte) : (s.transfer mosi).coefficientsInRange := by
  unfold State.transfer
  split
  · exact hs
  · split
    · unfold State.requestTransfer
      split
      · exact hs.serveFrame _
      · exact hs
    · split
      · exact hs
      · exact hs

/-! ## The step -/

theorem whenRunning {act : State → State} (hact : (act s).coefficientsInRange) :
    (s.whenRunning act).coefficientsInRange :=
  hs.ite hact

end State.coefficientsInRange

/-- Every event of a line, a unit, time or supply keeps the coefficients in range. -/
theorem event_keepsRanges {c : Instr} (hr : c.request? = none) {s : State}
    (hs : s.coefficientsInRange) : ∃ t, exec c s = .next t ∧ t.coefficientsInRange := by
  have leaves {act : State → State} (h : (act s).coefficients = s.coefficients) :
      (s.whenRunning act).coefficientsInRange := hs.whenRunning (hs.of_eq h)
  cases c
  case findNearScanEnd => exact ⟨_, rfl, hs.ite (hs.of_eq s.coefficients_endScan)⟩
  case badRequestFrame => exact ⟨_, rfl, hs.whenRunning (hs.transfer _)⟩
  case fetchTransfer => exact ⟨_, rfl, hs.whenRunning hs⟩
  case statusTransfer => exact ⟨_, rfl, hs.whenRunning (hs.transfer _)⟩
  case headFrame h b => exact ⟨_, rfl, leaves (s.coefficients_receiveCharacter h b)⟩
  case headLineCharacter h b => exact ⟨_, rfl, leaves (s.coefficients_receiveCharacter h b)⟩
  case characterFramingError h => exact ⟨_, rfl, leaves (s.coefficients_framingError h)⟩
  case frameBrokenOff h =>
    exact ⟨_, rfl, hs.whenRunning (hs.ite (hs.of_eq (s.coefficients_countCorrupt h _)))⟩
  case headTimeout h => exact ⟨_, rfl, leaves (s.coefficients_loseHead h)⟩
  case settleCountReached h => exact ⟨_, rfl, leaves (s.coefficients_settleReached h)⟩
  case targetReached h => exact ⟨_, rfl, leaves (s.coefficients_targetReached h)⟩
  case settlingDeadline h =>
    exact ⟨_, rfl, hs.whenRunning (hs.ite (hs.of_eq (s.coefficients_failOccupation h _)))⟩
  case capDeadline h =>
    exact ⟨_, rfl, hs.whenRunning (hs.ite (hs.of_eq (s.coefficients_capIntegration h)))⟩
  case tideEvaluationComplete => exact ⟨_, rfl, leaves s.coefficients_completeEvaluation⟩
  case driftApplyComplete => exact ⟨_, rfl, leaves s.coefficients_endApply⟩
  case timePulse =>
    exact ⟨_, rfl, hs.whenRunning (hs.ite (hs.of_eq s.coefficients_acceptPulse))⟩
  case pulseLoss => exact ⟨_, rfl, hs.whenRunning (hs.ite hs)⟩
  case clockHoldAtMax => exact ⟨_, rfl, hs⟩
  case partStart => exact ⟨_, rfl, hs.of_eq (State.coefficients_start _)⟩
  case backupLostStartup => exact ⟨_, rfl, hs.ite hs.rebuildBackup⟩
  case resetNAssert => exact ⟨_, rfl, hs⟩
  case vddFail => exact ⟨_, rfl, hs⟩
  case backupDomainLoss => exact ⟨_, rfl, hs.loseBackup⟩
  all_goals cases hr

theorem exec_keepsRanges {c : Instr} {s t : State} (hs : s.coefficientsInRange)
    (h : exec c s = .next t) : t.coefficientsInRange := by
  cases hr : c.request? with
  | some r =>
    rw [exec_of_request hr] at h
    cases h
    exact hs.serveFrame r
  | none =>
    obtain ⟨t', ht, hk⟩ := event_keepsRanges hr hs
    rw [ht] at h
    cases h
    exact hk

/-- Settles O55: a set comes in by a payload that is clamped and leaves STAGED for ACTIVE, constituents and
constants are clamped when written, and the defaults of either start are in range. -/
theorem coefficientsStayInRange : Obligations.CoefficientsStayInRange := by
  intro s t hs h
  unfold step at h
  split at h
  · cases h
    exact hs
  · next rest _ => exact exec_keepsRanges (s := s.withPending rest) hs h

end Sys2Proof.Machine
end

section
/-! SET_CONSTANTS: the constants carried, the loops whose drift is applied anew, the stations whose value is
formed anew (R120, R170, R171). -/

namespace Sys2Proof.Machine

/-! ## The constants -/

theorem clampNat_eq_max_min {lo hi : Nat} (h : lo ≤ hi) (v : Nat) :
    clampNat lo hi v = max lo (min hi v) := by
  unfold clampNat
  split
  · omega
  · split <;> omega

/-- The constants after the write, each that is not carried as before (R170). -/
theorem SurveyConstants.carry_ofPayload (c : SurveyConstants) (p : List Byte) :
    c.carry (.ofPayload p) =
      { driftLimit := if (p.getD 0 0).getLsbD 0 then max 1 (min 655360 (fieldNat 1 4 p))
          else c.driftLimit
        spreadLimit := if (p.getD 0 0).getLsbD 1 then max 1 (min 100000 (fieldNat 5 4 p))
          else c.spreadLimit
        pulseTolerance := if (p.getD 0 0).getLsbD 2 then max 1 (min 200 (fieldNat 9 2 p))
          else c.pulseTolerance } := by
  have carried (b : Bool) (v old : Nat) :
      (if b then some v else none).getD old = if b then v else old := by
    cases b <;> rfl
  simp only [carry, ConstantsOperands.ofPayload, carried,
    clampNat_eq_max_min (show 1 ≤ 655360 by decide), clampNat_eq_max_min (show 1 ≤ 100000 by decide),
    clampNat_eq_max_min (show 1 ≤ 200 by decide)]

/-! ## The work queued -/

section

variable {s : State} {p : List Byte}

theorem State.loopsToReapply_ofPayload : s.loopsToReapply (.ofPayload p)
    = if (p.getD 0 0).getLsbD 0 then Table.keysWhere s.loops Loop.applied else [] := by
  simp only [State.loopsToReapply, ConstantsOperands.ofPayload, Option.isSome_ite]

theorem State.stationsToJudge_ofPayload : s.stationsToJudge (.ofPayload p)
    = if (p.getD 0 0).getLsbD 1 then Table.keysWhere s.stations fun _ => true else [] := by
  simp only [State.stationsToJudge, ConstantsOperands.ofPayload, Option.isSome_ite]

/-- A loop's application is queued where the drift limit is carried and the loop is CLOSED or SUSPECT
(R171 part 1). -/
theorem State.mem_constantItems_driftApply (hwf : Table.wf s.loops) {k : Nat} :
    ⟨.driftApply, k⟩ ∈ s.constantItems (.ofPayload p) ↔ (p.getD 0 0).getLsbD 0 = true
      ∧ ∃ l, Table.get s.loops k = some l ∧ (l.state = .closed ∨ l.state = .suspect) := by
  rw [State.constantItems, State.loopsToReapply_ofPayload]
  cases (p.getD 0 0).getLsbD 0 with
  | false => simp
  | true => simp [Table.mem_keysWhere hwf, Loop.applied]

/-- The value of every station is queued where the spread limit is carried (R171 part 2). -/
theorem State.mem_constantItems_stationValue (hspread : (p.getD 0 0).getLsbD 1 = true) {x : Nat}
    {st : Station} (hst : Table.get s.stations x = some st) :
    ⟨.stationValue, x⟩ ∈ s.constantItems (.ofPayload p) := by
  rw [State.constantItems, State.stationsToJudge_ofPayload, if_pos hspread]
  exact List.mem_append_right _ (List.mem_map_of_mem (List.mem_map.2
    ⟨(x, st), List.mem_filter.2 ⟨Table.mem_of_get hst, rfl⟩, rfl⟩))

theorem State.constantItems_of_none (hdrift : (p.getD 0 0).getLsbD 0 = false)
    (hspread : (p.getD 0 0).getLsbD 1 = false) : s.constantItems (.ofPayload p) = [] := by
  rw [State.constantItems, State.loopsToReapply_ofPayload, State.stationsToJudge_ofPayload, hdrift,
    hspread]
  rfl

end

/-! ## The write -/

section

variable {s : State} (o : ConstantsOperands)

theorem State.writeConstants_frame : ∃ q f t l st n, s.writeConstants o =
    { s with
      constants := s.constants.carry o, revQueue := q, inFlight := f, tide := t, loops := l
      stations := st, notices := n } := by
  obtain ⟨q, l, st, hq⟩ := State.queueAll_frame (s.constantItems o)
    { s with constants := s.constants.carry o }
  obtain ⟨q', f, t, st', n, hr⟩ := State.revise_frame s.revisionBusy
    ({ s with constants := s.constants.carry o }.queueAll (s.constantItems o))
  exact ⟨q', f, t, l, st', n, by rw [State.writeConstants, hr, hq]⟩

theorem State.get_loops_writeConstants (k : Nat) : Table.get (s.writeConstants o).loops k
    = (Table.get s.loops k).map fun l =>
      if ⟨.driftApply, k⟩ ∈ s.constantItems o then { l with state := .closing } else l := by
  rw [State.writeConstants, State.loops_revise]
  exact State.get_loops_queueAll _ k _

theorem State.applyOwed_writeConstants {k : Nat} (h : ⟨.driftApply, k⟩ ∈ s.constantItems o) :
    (s.writeConstants o).applyOwed k :=
  State.applyOwed_revise _ (.inl ((State.mem_revQueue_queueAll _).2 (.inl h)))

theorem State.valueFollows_writeConstants {x : Nat} (h : ⟨.stationValue, x⟩ ∈ s.constantItems o) :
    (s.writeConstants o).valueFollows x :=
  State.valueFollows_revise _ (.inl ((State.mem_revQueue_queueAll _).2 (.inl h)))

/-- With no work to queue and none waiting only the constants, and a notice, change. -/
theorem State.writeConstants_of_no_items (hi : s.constantItems o = []) (hq : s.revQueue = []) :
    ∃ n, s.writeConstants o = { s with constants := s.constants.carry o, notices := n } := by
  obtain ⟨n, hn⟩ := State.revise_cases s.revisionBusy { s with constants := s.constants.carry o }
  refine ⟨n, ?_⟩
  rw [State.writeConstants, hi]
  refine hn.trans ?_
  rw [hq]
  rfl

end

/-! ## The request -/

theorem exec_setConstants {s : State} (hs : s.serves) {p : List Byte} (hp : p.length = 11)
    (tag : Byte) : exec (.setConstants tag p) s
      = .next ((s.taken.writeConstants (.ofPayload p)).respond tag
        (setConstants (.ofPayload p) s.taken).2) :=
  congrArg Host.Outcome.next (State.request_fixedForm hs hp (by decide) tag
    fun p s => setConstants (.ofPayload p) s)

/-- The answer: the constants, then the numbers of loops and stations queued (log 14). -/
theorem setConstants_answer (p : List Byte) (s : State) : (setConstants (.ofPayload p) s).2
    = ⟨.done, beBytes 4 (s.constants.carry (.ofPayload p)).driftLimit
        ++ beBytes 4 (s.constants.carry (.ofPayload p)).spreadLimit
        ++ beBytes 2 (s.constants.carry (.ofPayload p)).pulseTolerance
        ++ beBytes 2 (if (p.getD 0 0).getLsbD 0 then (s.loops.filter fun e => e.2.applied).length
          else 0)
        ++ beBytes 2 (if (p.getD 0 0).getLsbD 1 then s.stations.length else 0)⟩ := by
  have hloops : (s.loopsToReapply (.ofPayload p)).length
      = if (p.getD 0 0).getLsbD 0 then (s.loops.filter fun e => e.2.applied).length else 0 := by
    rw [State.loopsToReapply_ofPayload]
    split
    · exact List.length_map ..
    · rfl
  have hstations : (s.stationsToJudge (.ofPayload p)).length
      = if (p.getD 0 0).getLsbD 1 then s.stations.length else 0 := by
    rw [State.stationsToJudge_ofPayload]
    split
    · simp [Table.keysWhere]
    · rfl
  rw [setConstants, hloops, hstations]
  rfl

/-- Settles O46: the items queued are those of R171, none of them is lost while the engine takes items, and
an item makes its own loop alone CLOSING. -/
theorem constantsWrittenAndWorkQueued : Obligations.ConstantsWrittenAndWorkQueued := by
  intro tag p s hs hp hwf
  have hwf' : Table.wf s.taken.loops := hwf
  have hloop (k : Nat) := State.get_loops_writeConstants (s := s.taken) (.ofPayload p) k
  obtain ⟨q, f, tide, l, st, n, hframe⟩ := State.writeConstants_frame (s := s.taken) (.ofPayload p)
  refine ⟨_, exec_setConstants hs hp tag, ?_, fun k l hl hdrift happlied => ⟨?_, ?_⟩,
    fun k l hl hkept => ?_, fun hspread x st hst => ?_, ?_, fun hdrift hspread hq => ?_, ?_⟩
  · rw [hframe]
    exact s.constants.carry_ofPayload p
  · have hmem := (State.mem_constantItems_driftApply hwf').2 ⟨hdrift, l, hl, happlied⟩
    rw [State.respond_loops, hloop, State.taken_loops, hl, Option.map_some, if_pos hmem]
  · exact State.applyOwed_writeConstants _
      ((State.mem_constantItems_driftApply hwf').2 ⟨hdrift, l, hl, happlied⟩)
  · have hmem : ⟨.driftApply, k⟩ ∉ s.taken.constantItems (.ofPayload p) := fun hm => by
      obtain ⟨hdrift, l', hl', happlied⟩ := (State.mem_constantItems_driftApply hwf').1 hm
      cases hl.symm.trans hl'
      obtain h | h | h := hkept
      · cases h.symm.trans hdrift
      · simp [h] at happlied
      · simp [h] at happlied
    rw [State.respond_loops, hloop, State.taken_loops, hl, Option.map_some, if_neg hmem]
  · exact State.valueFollows_writeConstants _
      (State.mem_constantItems_stationValue (s := s.taken) hspread hst)
  · rw [hframe, setConstants_answer]
    rfl
  · obtain ⟨n', hn⟩ := State.writeConstants_of_no_items (s := s.taken) (.ofPayload p)
      (State.constantItems_of_none hdrift hspread) hq
    rw [hn]
    exact ⟨hq, rfl, rfl⟩
  · rw [hframe]
    exact ⟨rfl, rfl, rfl, rfl, rfl, rfl⟩

end Sys2Proof.Machine
end

section
/-! The restart: what it fails, what it keeps, and the notices it can raise; and PART_START's choice of a
sequence (R71, R149, R173, R174, R179). -/

namespace Sys2Proof.Machine

/-! ## One flag for each notice -/

/-- The notices in the order of their positions (R199). -/
def Notice.inOrder : List Notice :=
  [.headLost .h0, .headLost .h1, .headLost .h2, .headLost .h3, .occEnded .h0, .occEnded .h1,
    .occEnded .h2, .occEnded .h3, .loopClosed, .loopSuspect, .loopRefused, .stationDiscordant,
    .revisionIdle, .pulseOffset, .pulseLost, .calibrationApplied, .restarted, .backupLost, .factoryBad]

theorem Notice.inOrder_position (n : Notice) : Notice.inOrder[n.position]? = some n := by
  cases n with
  | headLost h => cases h <;> rfl
  | occEnded h => cases h <;> rfl
  | _ => rfl

theorem Notice.position_inj {m n : Notice} : m.position = n.position ↔ m = n := by
  refine ⟨fun h => Option.some.inj ?_, congrArg _⟩
  rw [← m.inOrder_position, h, n.inOrder_position]

/-- A notice's flag is set at its own position alone. -/
theorem Notice.getLsbD_flag_iff {m n : Notice} : m.flag.getLsbD n.position = true ↔ n = m := by
  refine ⟨fun h => ?_, fun h => h ▸ n.getLsbD_flag⟩
  simp only [Notice.flag, BitVec.getLsbD_shiftLeft, BitVec.getLsbD_one, Bool.and_eq_true,
    Bool.not_eq_true', decide_eq_true_eq, decide_eq_false_iff_not] at h
  exact Notice.position_inj.1 (by omega)

theorem State.hasNotice_setNotice {s : State} {m n : Notice} :
    (s.setNotice m).hasNotice n ↔ s.hasNotice n ∨ n = m := by
  rw [State.hasNotice, State.setNotice, BitVec.getLsbD_or, Bool.or_eq_true, Notice.getLsbD_flag_iff]
  rfl

/-- Processing a station's value raises STATION_DISCORDANT at most (R147). -/
theorem State.hasNotice_of_processStation {s : State} {k : Nat} {n : Notice}
    (h : (s.processStation k).hasNotice n) : s.hasNotice n ∨ n = .stationDiscordant := by
  unfold State.processStation at h
  split at h
  · exact .inl h
  · dsimp only at h
    split at h
    · exact State.hasNotice_setNotice.1 h
    · exact .inl h

/-- The Revision Engine's going on raises REVISION_IDLE and STATION_DISCORDANT at most (R137, R147). -/
theorem State.hasNotice_of_revise {s : State} {b : Bool} {n : Notice} (h : (s.revise b).hasNotice n) :
    s.hasNotice n ∨ n = .revisionIdle ∨ n = .stationDiscordant := by
  have htaken : (takeItems s.revQueue.length s).hasNotice n
      → s.hasNotice n ∨ n = .stationDiscordant := by
    refine takeItems_keeps (P := fun u => u.hasNotice n → s.hasNotice n ∨ n = .stationDiscordant)
      (fun u i rest _ _ _ hu h => ?_) (fun u i rest _ _ _ hu h => ?_) (fun _ _ _ _ _ _ hu => hu)
      (fun _ _ _ _ _ _ hu => hu) _ s .inl
    · exact (State.hasNotice_of_processStation h).elim hu .inr
    · obtain ⟨f, t, hr⟩ := State.takeRedo_frame { u with revQueue := rest } i.target
      rw [hr] at h
      exact hu h
  unfold State.revise at h
  dsimp only at h
  split at h
  · obtain h | h := State.hasNotice_setNotice.1 h
    · exact (htaken h).imp_right .inr
    · exact .inr (.inl h)
  · exact (htaken h).imp_right .inr

/-! ## The restart -/

section

variable (s : State)

theorem State.restart_frame : ∃ q f t l st n, s.restart =
    { s with
      occupations := s.interrupt.occupations, revQueue := q, inFlight := f, tide := t, loops := l
      stations := st, notices := n } := by
  obtain ⟨q, l, st, hq⟩ := State.queueAll_frame s.interrupt.owedItems s.interrupt
  obtain ⟨q', f, t, st', n, hr⟩ := State.revise_frame false
    { s.interrupt.queueAll s.interrupt.owedItems with notices := Notice.restarted.flag }
  exact ⟨q', f, t, l, st', n, by rw [State.restart, hr, hq]; rfl⟩

/-- The applications queued again are those of CLOSING loops, which stay so (R149). -/
theorem State.get_loops_restart (hwf : Table.wf s.loops) (k : Nat) :
    Table.get s.restart.loops k = Table.get s.loops k := by
  have hclosing (l : Loop) (hl : Table.get s.loops k = some l)
      (hi : ⟨.driftApply, k⟩ ∈ s.interrupt.owedItems) : l.state = .closing := by
    have hk : k ∈ Table.keysWhere s.loops fun l => l.state == .closing := by
      simpa [State.owedItems, State.interrupt] using hi
    obtain ⟨l', hl', hstate⟩ := (Table.mem_keysWhere hwf _ _).1 hk
    cases hl'.symm.trans hl
    simpa using hstate
  rw [State.restart, State.loops_revise, State.get_loops_queueAll]
  change (Table.get s.loops k).map _ = _
  cases hl : Table.get s.loops k with
  | none => rfl
  | some l =>
    rw [Option.map_some]
    split
    · next hi => rw [← hclosing l hl hi]
    · rfl

/-- No station's chain changes. -/
theorem State.chain_restart (k : Nat) :
    (Table.get s.restart.stations k).map Station.chain
      = (Table.get s.stations k).map Station.chain := by
  have hbare : Table.project Station.bare s.restart.stations
      = Table.project Station.bare s.stations := s.sameRecords_restart.stations
  have hchain := congrArg (Table.get · k) (Table.project_comp_eq (g := Station.bare) Station.chain hbare)
  simp only [Table.get_project] at hchain
  exact hchain

theorem State.hasNotice_restart : s.restart.hasNotice .restarted :=
  State.hasNotice_revise false (Notice.getLsbD_flag .restarted)

theorem State.eq_of_hasNotice_restart {n : Notice} (h : s.restart.hasNotice n) :
    n = .restarted ∨ n = .revisionIdle ∨ n = .stationDiscordant :=
  (State.hasNotice_of_revise h).imp_left Notice.getLsbD_flag_iff.1

/-! ## The choice of the sequence -/

theorem exec_partStart_of_valid (hb : s.backupValid = true) : exec .partStart s
    = .next { s with vdd := true, resetLow := false }.resetMain.restart :=
  congrArg Host.Outcome.next (if_pos hb)

theorem exec_partStart_of_lost (hb : s.backupValid = false) : exec .partStart s
    = .next { { s with vdd := true, resetLow := false }.resetMain with startup := true } :=
  congrArg Host.Outcome.next (if_neg (by simp [hb]))

end

/-- Settles O51: the restart writes OPEN occupations, the queue, the marks it finds set already and the
notices, and no store besides; without a valid marker only the main domain is reset. -/
theorem startChoosesTheSequence : Obligations.StartChoosesTheSequence := by
  refine ⟨fun s hb hwf => ?_, fun s hb => ⟨_, exec_partStart_of_lost s hb, ?_⟩⟩
  · generalize hu : { s with vdd := true, resetLow := false }.resetMain = u
    have hexec := exec_partStart_of_valid s hb
    rw [hu] at hexec
    have hwf' : Table.wf u.loops := hu ▸ hwf
    refine ⟨_, hexec, fun n => ?_, fun k => ?_, fun k => ?_, u.hasNotice_restart,
      fun n => u.eq_of_hasNotice_restart, ?_⟩
    · obtain ⟨_, _, _, _, _, _, hf⟩ := u.restart_frame
      rw [hf, ← hu]
      exact State.get_interrupt s n
    · rw [u.get_loops_restart hwf', ← hu]
      rfl
    · rw [u.chain_restart, ← hu]
      rfl
    · obtain ⟨_, _, _, _, _, _, hf⟩ := u.restart_frame
      rw [hf, ← hu]
      exact ⟨rfl, rfl, rfl, rfl, rfl, rfl, rfl, rfl, rfl, rfl, rfl, rfl, rfl, rfl, rfl, rfl, rfl, rfl,
        rfl, rfl, hb⟩
  · refine ⟨rfl, ?_, rfl, rfl, rfl, rfl, rfl, rfl, rfl, rfl, rfl⟩
    rw [State.attn]
    simp

end Sys2Proof.Machine
end

section
/-! The end of the backup-lost start-up, RESET_N, the losses of supply, and the power-on that leads to the
state after reset (R172 to R179). -/

namespace Sys2Proof.Machine

/-! ## The end of the start-up -/

section

variable {s : State}

theorem exec_backupLostStartup (hrun : s.running = true) (hup : s.startup = true) :
    exec .backupLostStartup s = .next s.rebuildBackup :=
  congrArg Host.Outcome.next (if_pos (by rw [hrun, hup]; rfl))

/-- With a good Factory Block its content is loaded (R175 part 5). -/
theorem State.rebuildBackup_of_good (hgood : s.factory.good = true) : s.rebuildBackup =
    { s with
      partition := .a, stations := [], nameIndex := [], occupations := [], loops := []
      clock := none, staged := perHead none, calGen := perHead 0, tableGen := 0
      noticeMask := BitVec.allOnes 19, backupValid := true, startup := false
      active := perHead s.factory.template, constituents := s.factory.constituents
      constants := s.factory.constants, notices := Notice.backupLost.flag } := by
  rw [State.rebuildBackup, State.loadDefaults, State.startupNotices, if_pos hgood, if_pos hgood]

/-- With a bad one the fixed logic's defaults are (R177). -/
theorem State.rebuildBackup_of_bad (hbad : ¬s.factory.good = true) : s.rebuildBackup =
    { s with
      partition := .a, stations := [], nameIndex := [], occupations := [], loops := []
      clock := none, staged := perHead none, calGen := perHead 0, tableGen := 0
      noticeMask := BitVec.allOnes 19, backupValid := true, startup := false
      active := perHead calibrationTemplate, constituents := disabledConstituents
      constants := defaultConstants
      notices := Notice.backupLost.flag ||| Notice.factoryBad.flag } := by
  rw [State.rebuildBackup, State.loadDefaults, State.startupNotices, if_neg hbad, if_neg hbad]

end

theorem FactoryBlock.good_iff (f : FactoryBlock) : f.good = true ↔ crc16 f.covered = f.crc := by
  rw [FactoryBlock.good, beq_iff_eq]

/-- The stored speed of a disabled entry is 0. -/
theorem disabledConstituents_eq :
    disabledConstituents = List.replicate 12 ⟨false, .longPeriod, 0, 0, 0, 19005⟩ := by
  have hspeed : storedSpeed 0 = 0 := by decide
  rw [disabledConstituents, defaultEntry, hspeed]

/-! ## A power-on -/

/-- From a lost backup domain a start, and the end of its sequence with the model's Factory Block, lead to
the state after reset (log 1). -/
theorem rebuildBackup_powerOn {s : State} (hf : s.factory = factoryBlock) (hp : s.pending = []) :
    { { s.resetMain.loseBackup with vdd := true, resetLow := false }.resetMain with
      startup := true }.rebuildBackup = State.reset := by
  rw [State.rebuildBackup_of_good (by exact hf ▸ factoryBlock_good)]
  simp only [State.resetMain, State.loseBackup, hf, hp]
  rfl

/-- Settles O52: every event writes the domain it says, and after a lost backup domain a start and the end
of its sequence write every field of the state but the Factory Block, the queue and the pins. -/
theorem supplyAndResetEvents : Obligations.SupplyAndResetEvents := by
  refine ⟨fun s hrun hup => ⟨_, exec_backupLostStartup hrun hup, ?_⟩, fun _ => rfl,
    fun s => ⟨_, rfl, rfl, rfl, rfl, rfl, rfl, rfl, rfl, rfl, rfl⟩,
    fun s => ⟨_, rfl, rfl, rfl, rfl, rfl⟩, fun s hf hp _ => ?_⟩
  · by_cases hgood : s.factory.good = true
    · rw [State.rebuildBackup_of_good hgood]
      exact ⟨rfl, fun _ => ⟨rfl, rfl, rfl, rfl⟩,
        fun hne => absurd ((FactoryBlock.good_iff _).1 hgood) hne⟩
    · rw [State.rebuildBackup_of_bad hgood]
      exact ⟨rfl, fun heq => absurd ((FactoryBlock.good_iff _).2 heq) hgood,
        fun _ => ⟨rfl, disabledConstituents_eq, rfl, rfl⟩⟩
  · refine ⟨_, _, rfl, exec_partStart_of_lost _ rfl, ?_⟩
    rw [exec_backupLostStartup rfl rfl]
    exact congrArg Host.Outcome.next (rebuildBackup_powerOn hf hp)

end Sys2Proof.Machine
end

section
/-! Request frames on the wire: what a frame's bytes carry, and that a changed byte after the marker shows
(R183, R196, R198). -/

namespace Sys2Proof.Machine

/-! ## A request frame judged -/

/-- A frame whose two length bytes give its payload's length is judged by the CRC-16 at its end. -/
theorem judgeFrame_of_length {marker code tag : Byte} {len p crc : List Byte} (hlen : len.length = 2)
    (hn : beNat len = p.length) (hcrc : crc.length = 2) (hp : p.length ≤ 512) :
    judgeFrame (marker :: code :: tag :: (len ++ (p ++ crc)))
      = if (crc16 (code :: tag :: (len ++ p))).toNat = beNat crc then some ⟨code, tag, p⟩ else none := by
  have hsize : (marker :: code :: tag :: (len ++ (p ++ crc))).length = 7 + p.length := by
    simp only [List.length_cons, List.length_append, hlen, hcrc]
    omega
  have hfield : fieldNat 3 2 (marker :: code :: tag :: (len ++ (p ++ crc))) = p.length :=
    (congrArg beNat (fieldBytes_of (as := [marker, code, tag]) rfl hlen)).trans hn
  have hcovered : fieldBytes 1 (4 + p.length) (marker :: code :: tag :: (len ++ (p ++ crc)))
      = code :: tag :: (len ++ p) := by
    simpa using fieldBytes_of (as := [marker]) (bs := code :: tag :: (len ++ p)) (cs := crc) rfl
      (by simp only [List.length_cons, List.length_append, hlen]; omega)
  have hend : fieldNat (5 + p.length) 2 (marker :: code :: tag :: (len ++ (p ++ crc))) = beNat crc := by
    simpa [fieldNat] using congrArg beNat (fieldBytes_of (as := marker :: code :: tag :: (len ++ p)) (bs := crc)
      (cs := []) (by simp only [List.length_cons, List.length_append, hlen]; omega) hcrc)
  have hpayload : fieldBytes 5 p.length (marker :: code :: tag :: (len ++ (p ++ crc))) = p := by
    simpa using fieldBytes_of (as := marker :: code :: tag :: len) (bs := p) (cs := crc)
      (by simp only [List.length_cons, hlen]) rfl
  rw [judgeFrame, hfield, hcovered, hend, hpayload, hsize,
    if_neg (by rw [Config.maxPayload]; omega)]
  rfl

/-- Settles O3: the length bytes and the CRC-16 are read back as they were written. -/
theorem wireFrameRoundTrip : Obligations.WireFrameRoundTrip := by
  intro code tag p hp
  have hframe := judgeFrame_of_length (marker := Config.requestMarker) (code := code) (tag := tag)
    (length_beBytes 2 p.length) (beNat_beBytes (by omega))
    (length_beBytes 2 (crc16 (code :: tag :: (beBytes 2 p.length ++ p))).toNat) hp
  rw [beNat_beBytes (BitVec.isLt _), if_pos rfl] at hframe
  rw [requestFrame, frameBody]
  simpa using hframe

/-! ## The CRC-16 tells a changed byte -/

/-- A shift loses nothing: the generator's lowest bit keeps what is carried out of the top (R196). -/
theorem crcShift_injective {w : Nat} {g : BitVec w} (hg : g.getLsbD 0 = true) :
    Function.Injective (crcShift g) := by
  have hw : 0 < w := BitVec.lt_of_getLsbD hg
  have hlow (r : BitVec w) : (crcShift g r).getLsbD 0 = r.msb := by
    cases hr : r.msb <;> simp [crcShift, hr, hg, hw]
  intro r r' h
  have hmsb : r.msb = r'.msb := by rw [← hlow r, ← hlow r', h]
  have hshift : r <<< 1 = r' <<< 1 := by
    cases hr : r.msb <;> simpa [crcShift, ← hmsb, hr] using h
  refine BitVec.eq_of_getLsbD_eq fun i hi => ?_
  by_cases htop : i = w - 1
  · rw [htop, ← BitVec.msb_eq_getLsbD_last, ← BitVec.msb_eq_getLsbD_last, hmsb]
  · have := congrArg (·.getLsbD (i + 1)) hshift
    simpa [BitVec.getLsbD_eq_getElem, hi, show i + 1 < w by omega] using this

theorem crcShifts_injective {w : Nat} {g : BitVec w} (hg : g.getLsbD 0 = true) (n : Nat) :
    Function.Injective (crcShifts g n) := by
  induction n with
  | zero => exact Function.injective_id
  | succ n ih => exact ih.comp (crcShift_injective hg)

theorem crc16Byte_injective_left (b : Byte) : Function.Injective (crc16Byte · b) :=
  (crcShifts_injective (by decide) 8).comp fun _ _ h => (BitVec.xor_left_inj _).1 h

theorem crc16Byte_injective_right (r : BitVec 16) : Function.Injective (crc16Byte r) := by
  intro b b' h
  have hword : b.zeroExtend 16 <<< 8 = b'.zeroExtend 16 <<< 8 :=
    (BitVec.xor_right_inj _).1 (crcShifts_injective (g := 0x1021) (by decide) 8 h)
  refine BitVec.eq_of_getLsbD_eq fun i hi => ?_
  have := congrArg (·.getLsbD (i + 8)) hword
  simpa [show i + 8 < 16 by omega, show i < 16 by omega] using this

theorem crc16_fold_injective (bs : List Byte) :
    Function.Injective fun r : BitVec 16 => bs.foldl crc16Byte r := by
  induction bs with
  | nil => exact Function.injective_id
  | cons b bs ih => exact ih.comp (crc16Byte_injective_left b)

/-- From any register, one byte exchanged for another gives another CRC-16. -/
theorem crc16_fold_set {bs : List Byte} {i : Nat} {b : Byte} (hi : i < bs.length) (r : BitVec 16)
    (h : (bs.set i b).foldl crc16Byte r = bs.foldl crc16Byte r) : bs[i]? = some b := by
  induction bs generalizing i r with
  | nil => cases hi
  | cons a bs ih =>
    cases i with
    | zero => exact congrArg some (crc16Byte_injective_right r (crc16_fold_injective bs h)).symm
    | succ i => exact ih (Nat.lt_of_succ_lt_succ hi) (crc16Byte r a) h

/-! ## A damaged frame -/

/-- Bytes of one length and one value are the same. -/
theorem beNat_inj {as bs : List Byte} (hl : as.length = bs.length) (h : beNat as = beNat bs) :
    as = bs := by
  induction as generalizing bs with
  | nil => exact (List.length_eq_zero_iff.1 hl.symm).symm
  | cons a as ih =>
    cases bs with
    | nil => cases hl
    | cons b bs =>
      have hl' : as.length = bs.length := Nat.succ.inj hl
      have ha := beNat_lt as
      have hb := beNat_lt bs
      simp only [beNat, hl'] at h ha
      have hpos : 0 < 256 ^ bs.length := Nat.pow_pos (by decide)
      have hhead : a.toNat = b.toNat := by
        have := congrArg (· / 256 ^ bs.length) h
        simpa only [Nat.mul_add_div hpos, Nat.div_eq_of_lt ha, Nat.div_eq_of_lt hb, Nat.add_zero,
          Nat.mul_comm _ (256 ^ bs.length)] using this
      rw [hhead] at h
      rw [BitVec.eq_of_toNat_eq hhead, ih hl' (Nat.add_left_cancel h)]

section

variable {f : List Byte} {k at_ n : Nat} (b : Byte)

/-- A byte changed outside a field leaves the field. -/
theorem fieldBytes_set_of_outside (h : k < at_ ∨ at_ + n ≤ k) :
    fieldBytes at_ n (f.set k b) = fieldBytes at_ n f := by
  rw [fieldBytes, List.drop_set]
  split
  · rfl
  · rw [List.take_set_of_le (by omega), fieldBytes]

/-- A byte changed inside a field is changed in the field. -/
theorem fieldBytes_set_of_inside (h : at_ ≤ k) :
    fieldBytes at_ n (f.set k b) = (fieldBytes at_ n f).set (k - at_) b := by
  rw [fieldBytes, List.drop_set, if_neg (Nat.not_lt.2 h), List.take_set, fieldBytes]

theorem getElem?_fieldBytes (h : at_ ≤ k) (hk : k < at_ + n) :
    (fieldBytes at_ n f)[k - at_]? = f[k]? := by
  rw [fieldBytes, List.getElem?_take_of_lt (by omega), List.getElem?_drop,
    Nat.add_sub_cancel' h]

theorem lt_length_fieldBytes (h : at_ ≤ k) (hk : k < at_ + n) (hf : k < f.length) :
    k - at_ < (fieldBytes at_ n f).length := by
  rw [fieldBytes, List.length_take, List.length_drop]
  omega

variable {b}

/-- A field of the same value after a change inside it was not changed. -/
theorem getElem?_of_fieldNat_set (h : at_ ≤ k) (hk : k < at_ + n) (hf : k < f.length)
    (heq : fieldNat at_ n (f.set k b) = fieldNat at_ n f) : f[k]? = some b := by
  rw [fieldNat, fieldBytes_set_of_inside b h] at heq
  have hsame := beNat_inj (List.length_set ..) heq
  rw [← getElem?_fieldBytes h hk, ← hsame,
    List.getElem?_set_self (lt_length_fieldBytes h hk hf)]

/-- Bytes of the same CRC-16 after a change inside them were not changed. -/
theorem getElem?_of_crc16_set (h : at_ ≤ k) (hk : k < at_ + n) (hf : k < f.length)
    (heq : crc16 (fieldBytes at_ n (f.set k b)) = crc16 (fieldBytes at_ n f)) : f[k]? = some b := by
  rw [fieldBytes_set_of_inside b h] at heq
  rw [← getElem?_fieldBytes h hk]
  exact crc16_fold_set (lt_length_fieldBytes h hk hf) _ heq

end

/-- A good frame is as long as its length field says and ends in the CRC-16 of what it covers. -/
theorem length_and_crc_of_judgeFrame {f : List Byte} {r : Request} (h : judgeFrame f = some r) :
    f.length = 7 + fieldNat 3 2 f
      ∧ (crc16 (fieldBytes 1 (4 + fieldNat 3 2 f) f)).toNat = fieldNat (5 + fieldNat 3 2 f) 2 f := by
  rw [judgeFrame] at h
  split at h
  · cases h
  · next hsize =>
    split at h
    · next hcrc => exact ⟨by omega, hcrc⟩
    · cases h

/-- A good frame with one byte after its first changed is bad. -/
theorem judgeFrame_set_eq_none {f : List Byte} {r : Request} (hf : judgeFrame f = some r) {k : Nat}
    {b : Byte} (h1 : 1 ≤ k) (hk : k < f.length) (hb : f[k]? ≠ some b) :
    judgeFrame (f.set k b) = none := by
  by_contra hne
  obtain ⟨r', hr'⟩ := Option.ne_none_iff_exists'.1 hne
  obtain ⟨hlen, hcrc⟩ := length_and_crc_of_judgeFrame hf
  obtain ⟨hlen', hcrc'⟩ := length_and_crc_of_judgeFrame hr'
  rw [List.length_set] at hlen'
  rw [show fieldNat 3 2 (f.set k b) = fieldNat 3 2 f by omega] at hcrc'
  generalize fieldNat 3 2 f = n at *
  rcases Nat.lt_or_ge k (5 + n) with hcovered | hend
  · have hsame : fieldNat (5 + n) 2 (f.set k b) = fieldNat (5 + n) 2 f :=
      congrArg beNat (fieldBytes_set_of_outside b (.inl hcovered))
    rw [hsame, ← hcrc] at hcrc'
    exact hb (getElem?_of_crc16_set h1 (by omega) hk (BitVec.eq_of_toNat_eq hcrc'))
  · rw [fieldBytes_set_of_outside b (.inr (by omega)), hcrc] at hcrc'
    exact hb (getElem?_of_fieldNat_set hend (by omega) hk hcrc'.symm)

/-- Settles O5: the size no longer fits the length field, or the CRC-16 no longer what it covers. -/
theorem damagedFrameIsRejected : Obligations.DamagedFrameIsRejected := by
  intro code tag p k b hp h1 hk hb
  exact judgeFrame_set_eq_none (wireFrameRoundTrip code tag p hp) h1
    (by rwa [Laws.length_requestFrame]) hb

end Sys2Proof.Machine
end

section
/-! Transfers on the console link: bad frames, fetches, status transfers and request frames, told by their
first byte (R181 to R184, R187). -/

namespace Sys2Proof.Machine

/-! ## What is shifted out -/

/-- Fill alone (R181). -/
theorem shiftedOut_nil (n : Nat) : shiftedOut n [] = List.replicate n 0xFF := by
  rw [shiftedOut, List.nil_append, List.take_replicate, Nat.min_self]
  rfl

/-- A frame shifted out whole, then fill (R187). -/
theorem shiftedOut_of_le {n : Nat} {f : List Byte} (h : f.length ≤ n) :
    shiftedOut n f = f ++ List.replicate (n - f.length) 0xFF := by
  rw [shiftedOut, List.take_append, List.take_of_length_le h, List.take_replicate,
    Nat.min_eq_left (Nat.sub_le ..), Config.fillByte]

/-- A frame not read to its end (R187). -/
theorem shiftedOut_of_lt {n : Nat} {f : List Byte} (h : n < f.length) : shiftedOut n f = f.take n := by
  rw [shiftedOut, List.take_append_of_le_length h.le]

/-! ## The kinds of transfers -/

section

variable (s : State)

/-- A waiting frame read to its end is released (R187). -/
theorem State.fetch_of_le {n : Nat} {f : List Byte} (hl : s.link = .answered f) (h : f.length ≤ n) :
    s.fetch n = { s with
      miso := s.statusByte :: (f ++ List.replicate (n - f.length) 0xFF), link := .idle } := by
  simp only [State.fetch, hl, LinkState.waiting, LinkState.fetched, if_pos h, shiftedOut_of_le h]

/-- A waiting frame not read to its end waits on (R187). -/
theorem State.fetch_of_lt {n : Nat} {f : List Byte} (hl : s.link = .answered f) (h : n < f.length) :
    s.fetch n = { s with miso := s.statusByte :: f.take n } := by
  simp only [State.fetch, hl, LinkState.waiting, LinkState.fetched, if_neg (Nat.not_le.2 h),
    shiftedOut_of_lt h]

/-- With no frame waiting a fetch shifts out fill (R187). -/
theorem State.fetch_of_not_answered (n : Nat) (hl : ∀ f, s.link ≠ .answered f) :
    s.fetch n = { s with miso := s.statusByte :: List.replicate n 0xFF } := by
  obtain ⟨hwaiting, hfetched⟩ : s.link.waiting = [] ∧ s.link.fetched n = s.link := by
    cases hlink : s.link with
    | answered f => exact absurd hlink (hl f)
    | idle => exact ⟨rfl, rfl⟩
    | working r => exact ⟨rfl, rfl⟩
  rw [State.fetch, hwaiting, hfetched, shiftedOut_nil]

/-- A transfer that begins with the fetch byte is a fetch (R181). -/
theorem State.transfer_fetchByte (rest : List Byte) :
    s.transfer (0x69 :: rest) = s.fetch rest.length := by
  rw [State.transfer, if_neg (by decide), if_pos (by rfl)]

/-- A transfer that begins with neither marker nor fetch byte shifts out fill (R181). -/
theorem State.transfer_of_status {mosi : List Byte} (h : isStatusTransfer mosi = true) :
    s.transfer mosi
      = { s with miso := s.statusByte :: List.replicate (mosi.length - 1) 0xFF } := by
  cases mosi with
  | nil => cases h
  | cons b rest =>
    simp only [isStatusTransfer, Bool.and_eq_true, bne_iff_ne] at h
    obtain ⟨hmarker, hfetch⟩ := h
    rw [State.transfer, if_neg hmarker, if_neg hfetch, shiftedOut_nil,
      List.length_cons, Nat.add_sub_cancel]

/-- A transfer that begins with the marker and is bad is discarded (R183). -/
theorem State.transfer_of_bad {mosi : List Byte} (h : isBadFrame mosi = true) :
    s.transfer mosi = s.rejected := by
  simp only [isBadFrame, Bool.and_eq_true, beq_iff_eq, Option.isNone_iff_eq_none] at h
  obtain ⟨hmarker, hbad⟩ := h
  cases mosi with
  | nil => cases hmarker
  | cons b rest =>
    cases hmarker
    rw [s.transfer_marker, State.requestTransfer, hbad]

/-- A request's own frame on MOSI serves that request (R183, R184). -/
theorem State.transfer_requestFrame (code tag : Byte) {p : List Byte} (hp : p.length ≤ 512) :
    s.transfer (requestFrame code tag p) = s.serveFrame ⟨code, tag, p⟩ := by
  have hgood := wireFrameRoundTrip code tag p hp
  rw [requestFrame] at hgood ⊢
  rw [s.transfer_marker, State.requestTransfer, hgood]

end

section

variable {s : State} (hrun : s.running = true)

include hrun

theorem exec_badRequestFrame (mosi : List Byte) :
    exec (.badRequestFrame mosi) s = .next (s.transfer mosi) :=
  congrArg Host.Outcome.next (State.whenRunning_of_running hrun _)

theorem exec_statusTransfer (mosi : List Byte) :
    exec (.statusTransfer mosi) s = .next (s.transfer mosi) :=
  congrArg Host.Outcome.next (State.whenRunning_of_running hrun _)

theorem exec_fetchTransfer (n : Nat) : exec (.fetchTransfer n) s = .next (s.fetch n) :=
  congrArg Host.Outcome.next (State.whenRunning_of_running hrun _)

end

/-- Settles O6: the first byte decides, and each kind of transfer is the state written out. -/
theorem transfersWithoutRequest : Obligations.TransfersWithoutRequest := by
  intro s hrun
  have hfetch (rest : List Byte) :
      Host.Outcome.next (φ := Fault) (ρ := Refusal) (s.transfer (0x69 :: rest))
        = exec (.fetchTransfer rest.length) s := by
    rw [s.transfer_fetchByte, exec_fetchTransfer hrun]
  refine ⟨fun mosi h => ?_, fun mosi h => ?_, fun mosi _ => ?_, fun mosi _ => ?_,
    fun rest => ⟨?_, ?_⟩, fun n f hl h => ?_, fun n f hl h => ?_, fun n hl => ?_⟩
  · rw [exec_badRequestFrame hrun, s.transfer_of_bad h, State.rejected]
  · rw [exec_statusTransfer hrun, s.transfer_of_status h]
  · rw [exec_statusTransfer hrun, exec_badRequestFrame hrun]
  · rw [exec_badRequestFrame hrun, exec_statusTransfer hrun]
  · rw [exec_badRequestFrame hrun, hfetch]
  · rw [exec_statusTransfer hrun, hfetch]
  · rw [exec_fetchTransfer hrun, s.fetch_of_le hl h]
  · rw [exec_fetchTransfer hrun, s.fetch_of_lt hl h]
  · rw [exec_fetchTransfer hrun, s.fetch_of_not_answered n hl]

end Sys2Proof.Machine
end

section
/-! The owner that a good request frame reaches by its code, the answers the link gives itself, and what a
request that is not answered DONE leaves (R178, R184 to R186, R199). -/

namespace Sys2Proof.Machine

/-! ## Served without a change unless DONE -/

/-- An owner's answer is DONE, or the state is as it was (R186). -/
def State.changedOnlyByDone (s : State) (r : State × Answer) : Prop := r.2.code = .done ∨ r.1 = s

theorem State.changedOnlyByDone.refused {s : State} (a : Answer) : s.changedOnlyByDone (s, a) := .inr rfl

theorem State.changedOnlyByDone.served {s : State} (t : State) (p : List Byte) :
    s.changedOnlyByDone (t, done p) := .inl rfl

section

open State.changedOnlyByDone

variable (s : State)

theorem declareStation_changedOnlyByDone (o : DeclareOperands) :
    s.changedOnlyByDone (declareStation o s) := by
  unfold declareStation
  split
  · split
    · exact refused _
    · split
      · exact refused _
      · exact served _ _
  · exact refused _

theorem editStation_changedOnlyByDone (o : EditOperands) :
    s.changedOnlyByDone (editStation o s) := by
  unfold editStation
  split
  · exact refused _
  · split
    · exact refused _
    · split
      · exact refused _
      · split
        · exact refused _
        · exact served _ _

theorem retireStation_changedOnlyByDone (k : Nat) : s.changedOnlyByDone (retireStation k s) := by
  unfold retireStation
  split
  · exact refused _
  · split
    · exact refused _
    · exact served _ _

theorem clearSurvey_changedOnlyByDone (code : Byte) : s.changedOnlyByDone (clearSurvey code s) := by
  unfold clearSurvey
  split
  · exact refused _
  · split
    · exact refused _
    · exact served _ _

theorem openOccupation_changedOnlyByDone (o : OpenOperands) :
    s.changedOnlyByDone (openOccupation o s) := by
  unfold openOccupation
  split
  · exact refused _
  · exact served _ _

theorem forceIntegrate_changedOnlyByDone (h : Head) : s.changedOnlyByDone (forceIntegrate h s) := by
  unfold forceIntegrate
  split
  · exact served _ _
  · exact refused _

theorem stopOccupation_changedOnlyByDone (h : Head) : s.changedOnlyByDone (stopOccupation h s) := by
  unfold stopOccupation
  split
  · exact served _ _
  · exact refused _

theorem cancelOccupation_changedOnlyByDone (h : Head) : s.changedOnlyByDone (cancelOccupation h s) := by
  unfold cancelOccupation
  split
  · exact served _ _
  · exact refused _

theorem includeRequest_changedOnlyByDone (b : Bool) (n : Nat) :
    s.changedOnlyByDone (includeRequest b n s) := by
  unfold includeRequest
  split
  · exact refused _
  · split
    · exact served _ _
    · exact refused _

theorem deleteOccupation_changedOnlyByDone (n : Nat) : s.changedOnlyByDone (deleteOccupation n s) := by
  unfold deleteOccupation
  split
  · exact refused _
  · split
    · exact refused _
    · exact served _ _

theorem abandonLoop_changedOnlyByDone (k : Nat) : s.changedOnlyByDone (abandonLoop k s) := by
  unfold abandonLoop
  split
  · exact refused _
  · exact served _ _

theorem releaseLoop_changedOnlyByDone (k : Nat) : s.changedOnlyByDone (releaseLoop k s) := by
  unfold releaseLoop
  split
  · exact refused _
  · split
    · exact served _ _
    · exact refused _

theorem headReset_changedOnlyByDone (code : Byte) : s.changedOnlyByDone (headReset code s) := by
  unfold headReset
  split
  · exact refused _
  · exact served _ _

theorem stageCalibration_changedOnlyByDone (p : List Byte) :
    s.changedOnlyByDone (stageCalibration p s) := by
  unfold stageCalibration
  split
  · exact refused _
  · exact served _ _

theorem writeConstituent_changedOnlyByDone (p : List Byte) :
    s.changedOnlyByDone (writeConstituent p s) := by
  unfold writeConstituent
  dsimp only
  split
  · exact refused _
  · split
    · exact refused _
    · exact served _ _

theorem setTime_changedOnlyByDone (sec ms : Nat) : s.changedOnlyByDone (setTime sec ms s) := by
  unfold setTime
  split
  · exact refused _
  · split
    · exact refused _
    · exact served _ _

theorem syncToPulse_changedOnlyByDone (sec : Nat) : s.changedOnlyByDone (syncToPulse sec s) := by
  unfold syncToPulse
  split
  · exact refused _
  · exact served _ _

end

/-! ## The owners by code -/

/-- An owner of a request code: of the code's form, and it changes nothing unless it answers DONE. -/
structure Server.Owns (serve : Server) (code : Nat) : Prop where
  form : ∀ n, formLength code = some n → ∃ own, serve = fixedForm n own
  unchanged : ∀ (p : List Byte) (s : State), s.changedOnlyByDone (serve p s)

theorem Server.owns_fixedForm {code n : Nat} {own : Server} (hf : formLength code = some n)
    (hown : ∀ (p : List Byte) (s : State), s.changedOnlyByDone (own p s)) :
    Server.Owns (fixedForm n own) code where
  form m hm := by
    rw [hf] at hm
    cases hm
    exact ⟨own, rfl⟩
  unchanged p s := by
    unfold fixedForm
    split
    · exact hown p s
    · exact .refused _

theorem Server.owns_readForm {code n : Nat} {answer : List Byte → State → Answer}
    (hf : formLength code = some n) : Server.Owns (readForm n answer) code :=
  Server.owns_fixedForm hf fun _ _ => .refused _

theorem Server.owns_onHead {code : Nat} {serve : Head → State → State × Answer}
    (hf : formLength code = some 1)
    (hs : ∀ (s : State) (h : Head), s.changedOnlyByDone (serve h s)) :
    Server.Owns (onHead serve) code :=
  Server.owns_fixedForm hf fun p s => by
    split
    · exact .refused _
    · exact hs s _

theorem Server.owns_stageCalibration : Server.Owns serveStageCalibration 21 :=
  ⟨nofun, fun p s => stageCalibration_changedOnlyByDone s p⟩

theorem Server.owns_unknown {code : Nat} (hf : formLength code = none) : Server.Owns serveUnknown code :=
  ⟨fun _ h => (by cases hf.symm.trans h), fun _ _ => .refused _⟩

/-- A good frame is a FIND_NEAR, a LINK_RESET, or goes to the owner of its code (R184, R185, R199). -/
theorem State.serveFrame_cases (s : State) (r : Request) :
    (r.code.toNat = 5 ∧ s.serveFrame r = s.requestFindNear r.tag r.payload)
      ∨ (r.code.toNat = 32 ∧ s.serveFrame r = s.linkReset r.tag r.payload)
      ∨ ∃ serve : Server, serve.Owns r.code.toNat
        ∧ s.serveFrame r = s.request r.tag r.payload serve := by
  unfold State.serveFrame
  generalize r.code.toNat = code
  split
  case h_5 => exact .inl ⟨rfl, rfl⟩
  case h_32 => exact .inr (.inl ⟨rfl, rfl⟩)
  all_goals refine .inr (.inr ⟨_, ?_, rfl⟩)
  case h_1 => exact Server.owns_fixedForm rfl fun _ s => declareStation_changedOnlyByDone s _
  case h_2 => exact Server.owns_fixedForm rfl fun _ s => editStation_changedOnlyByDone s _
  case h_6 => exact Server.owns_fixedForm rfl fun _ s => retireStation_changedOnlyByDone s _
  case h_7 => exact Server.owns_fixedForm rfl fun _ s => clearSurvey_changedOnlyByDone s _
  case h_8 => exact Server.owns_fixedForm rfl fun _ s => openOccupation_changedOnlyByDone s _
  case h_9 => exact Server.owns_onHead rfl forceIntegrate_changedOnlyByDone
  case h_10 => exact Server.owns_onHead rfl stopOccupation_changedOnlyByDone
  case h_11 => exact Server.owns_onHead rfl cancelOccupation_changedOnlyByDone
  case h_13 => exact Server.owns_fixedForm rfl fun _ s => includeRequest_changedOnlyByDone s _ _
  case h_14 => exact Server.owns_fixedForm rfl fun _ s => includeRequest_changedOnlyByDone s _ _
  case h_15 => exact Server.owns_fixedForm rfl fun _ s => deleteOccupation_changedOnlyByDone s _
  case h_17 => exact Server.owns_fixedForm rfl fun _ s => abandonLoop_changedOnlyByDone s _
  case h_18 => exact Server.owns_fixedForm rfl fun _ s => releaseLoop_changedOnlyByDone s _
  case h_20 => exact Server.owns_fixedForm rfl fun _ s => headReset_changedOnlyByDone s _
  case h_21 => exact Server.owns_stageCalibration
  case h_23 => exact Server.owns_fixedForm rfl fun p s => writeConstituent_changedOnlyByDone s p
  case h_25 => exact Server.owns_fixedForm rfl fun _ _ => .served _ _
  case h_26 => exact Server.owns_fixedForm rfl fun _ s => setTime_changedOnlyByDone s _ _
  case h_27 => exact Server.owns_fixedForm rfl fun _ s => syncToPulse_changedOnlyByDone s _
  case h_30 => exact Server.owns_fixedForm rfl fun _ _ => .served _ _
  case h_31 => exact Server.owns_fixedForm rfl fun _ _ => .served _ _
  case h_33 => exact Server.owns_unknown (by rw [formLength] <;> assumption)
  all_goals exact Server.owns_readForm rfl

/-! ## What the link does itself -/

/-- But for a LINK_RESET without payload, a good frame is received as R183 to R185 say, whatever its code. -/
theorem State.serveFrame_eq_receiveFrame (s : State) {r : Request}
    (h : r.code ≠ 32 ∨ r.payload ≠ []) :
    ∃ act, s.serveFrame r = s.receiveFrame r.tag r.payload act := by
  obtain ⟨-, hr⟩ | ⟨hc, hr⟩ | ⟨serve, -, hr⟩ := s.serveFrame_cases r
  · exact ⟨_, hr⟩
  · have hp : r.payload ≠ [] := h.resolve_left fun hne => hne (BitVec.eq_of_toNat_eq hc)
    rw [State.linkReset, if_neg fun hl => hp (List.length_eq_zero_iff.1 hl)] at hr
    exact ⟨_, hr⟩
  · exact ⟨_, hr⟩

/-- A LINK_RESET without payload (R178, R194). -/
theorem State.serveFrame_linkReset (s : State) (tag : Byte) :
    s.serveFrame ⟨32, tag, []⟩ = if !s.running then s
      else if s.startup then s.taken.respond tag (refusal .busy) else s.taken.resetLink := rfl

/-- A good frame is a LINK_RESET without payload, or received as R183 to R185 say. -/
theorem State.serveFrame_linkReset_or_receive (s : State) (r : Request) :
    r = ⟨32, r.tag, []⟩ ∨ ∃ act, s.serveFrame r = s.receiveFrame r.tag r.payload act := by
  obtain ⟨code, tag, p⟩ := r
  by_cases h : code = 32 ∧ p = []
  · obtain ⟨rfl, rfl⟩ := h
    exact .inl rfl
  · exact .inr (s.serveFrame_eq_receiveFrame (not_and_or.1 h))

/-- A part held in reset or without VDD takes no frame (log 9). -/
theorem State.serveFrame_of_not_running {s : State} (h : s.running = false) (r : Request) :
    s.serveFrame r = s := by
  obtain hr | ⟨act, hr⟩ := s.serveFrame_linkReset_or_receive r
  · rw [hr, s.serveFrame_linkReset, h]
    rfl
  · rw [hr, State.receiveFrame, h]
    rfl

section

variable {s : State} (hrun : s.running = true) {p : List Byte} (hp : p.length ≤ 512) (tag : Byte)
  (act : State → State)

include hrun hp

/-- In WORKING a good frame is ignored (R184). -/
theorem State.receiveFrame_of_working (hl : s.link.isWorking = true) :
    s.receiveFrame tag p act = s.taken := by
  rw [State.receiveFrame, if_neg (by simp [hrun]),
    if_neg (show ¬Config.maxPayload < p.length from Nat.not_lt.2 hp)]
  cases hlink : s.link with
  | working q => rfl
  | idle => simp [hlink, LinkState.isWorking] at hl
  | answered f => simp [hlink, LinkState.isWorking] at hl

/-- In the backup-lost start-up a good frame is answered BUSY (R178). -/
theorem State.receiveFrame_of_startup (hup : s.startup = true) (hl : s.link.isWorking = false) :
    s.receiveFrame tag p act = s.taken.respond tag (refusal .busy) := by
  rw [State.receiveFrame, if_neg (by simp [hrun]),
    if_neg (show ¬Config.maxPayload < p.length from Nat.not_lt.2 hp)]
  cases hlink : s.link with
  | working q => simp [hlink, LinkState.isWorking] at hl
  | idle => exact if_pos hup
  | answered f => exact if_pos hup

end

/-- A code outside the catalogue has no owner (R185). -/
theorem State.serveFrame_of_unknown (s : State) {r : Request} (h : knownCode r.code = false) :
    s.serveFrame r = s.request r.tag r.payload serveUnknown := by
  simp only [knownCode, Bool.and_eq_false_iff, decide_eq_false_iff_not] at h
  unfold State.serveFrame
  split
  case h_33 => rfl
  all_goals omega

/-- A payload of another length than its form's is BAD_FIELD and reaches no owner (R185, R199). -/
theorem State.serveFrame_of_wrong_length {s : State} (hs : s.serves) {r : Request} {n : Nat}
    (hf : formLength r.code.toNat = some n) (hn : r.payload.length ≠ n) (hp : r.payload.length ≤ 512) :
    s.serveFrame r = s.taken.respond r.tag (refusal .badField) := by
  obtain ⟨hc, hr⟩ | ⟨hc, -⟩ | ⟨serve, ho, hr⟩ := s.serveFrame_cases r
  · rw [hc] at hf
    cases hf
    rw [hr, State.requestFindNear, State.receiveFrame_of_serves hs hp, State.takeFindNear, nearOfPayload,
      if_neg hn]
  · rw [hc] at hf
    cases hf
  · obtain ⟨own, rfl⟩ := ho.form n hf
    rw [hr, State.request, State.receiveFrame_of_serves hs hp, fixedForm, if_neg hn]

/-! ## Request frames on the wire and in the link -/

/-- Settles O4: the frame carries the request that the command carries, and a part that is not running
takes neither. -/
theorem wireFrameRunsItsRow : Obligations.WireFrameRunsItsRow := by
  intro i r s hr hp
  have hframe : s.whenRunning (fun s => s.transfer (requestFrame r.code r.tag r.payload))
      = s.serveFrame r := by
    cases hrun : s.running with
    | true => rw [State.whenRunning_of_running hrun, s.transfer_requestFrame _ _ hp]
    | false =>
      rw [State.serveFrame_of_not_running hrun, State.whenRunning, if_neg (by simp [hrun])]
  rw [exec_of_request hr]
  exact ⟨congrArg Host.Outcome.next hframe, congrArg Host.Outcome.next hframe⟩

/-- Settles O7: every good frame but a LINK_RESET is received by one function, which ignores it in WORKING. -/
theorem workingIgnoresRequests : Obligations.WorkingIgnoresRequests := by
  intro i r s hrun _ hl hr hc hp
  obtain ⟨act, hact⟩ := s.serveFrame_eq_receiveFrame (.inl hc)
  rw [exec_of_request hr, hact, State.receiveFrame_of_working hrun hp _ _ hl, State.taken]

/-- Settles O8: BUSY and UNKNOWN_REQUEST come before any owner, and BAD_FIELD from the owner's form. -/
theorem linkAnswersForItself : Obligations.LinkAnswersForItself := by
  refine ⟨fun i r s hrun hup hl hr hp => ?_, fun code tag p s hs hc hp => ?_,
    fun i r n s hs hr hf hn hp => ?_⟩
  · rw [exec_of_request hr]
    obtain hreset | ⟨act, hact⟩ := s.serveFrame_linkReset_or_receive r
    · rw [hreset, s.serveFrame_linkReset, if_neg (by simp [hrun]), if_pos hup]
      rfl
    · rw [hact, State.receiveFrame_of_startup hrun hp _ _ hup hl]
      rfl
  · refine congrArg Host.Outcome.next ((s.serveFrame_of_unknown hc).trans ?_)
    rw [State.request, State.receiveFrame_of_serves hs hp]
    rfl
  · rw [State.refuses, exec_of_request hr, State.serveFrame_of_wrong_length hs hf hn hp]
    rfl

/-! ## Requests not answered DONE -/

/-- A request served by an owner is answered DONE, or changes the link and MISO alone (R186). -/
theorem State.request_done_or_frame (s : State) (tag : Byte) (p : List Byte) {serve : Server}
    (hs : ∀ (p : List Byte) (s : State), s.changedOnlyByDone (serve p s)) :
    (∃ q, (s.request tag p serve).link = .answered (responseFrame tag ⟨.done, q⟩))
      ∨ ∃ l b m, s.request tag p serve = { s with link := l, lastRejected := b, miso := m } := by
  obtain h | h | h | h | h := s.receiveFrame_cases tag p fun s' =>
    (serve p s').1.respond tag (serve p s').2
  · exact .inr ⟨_, _, _, h⟩
  · exact .inr ⟨_, _, _, h⟩
  · exact .inr ⟨_, _, _, h⟩
  · exact .inr ⟨_, _, _, h⟩
  · rw [State.request, h]
    obtain hdone | hsame := hs p s.taken
    · rw [State.respond_link, ← hdone]
      exact .inl ⟨_, rfl⟩
    · rw [hsame]
      exact .inr ⟨_, _, _, rfl⟩

/-- LINK_RESET changes the link, MISO and the scan alone (R194). -/
theorem State.linkReset_frame (s : State) (tag : Byte) (p : List Byte) :
    ∃ l b m q, s.linkReset tag p = { s with link := l, lastRejected := b, miso := m, scan := q } := by
  unfold State.linkReset
  split
  · split
    · exact ⟨_, _, _, _, rfl⟩
    · split
      · exact ⟨_, _, _, _, rfl⟩
      · exact ⟨_, _, _, _, rfl⟩
  · obtain h | h | h | h | h := s.receiveFrame_cases tag p fun s' => s'.respond tag (refusal .badField)
    all_goals exact ⟨_, _, _, _, h⟩

/-- A good frame is answered DONE, or changes the link, MISO and the scan alone (R186). -/
theorem State.serveFrame_done_or_frame (s : State) (r : Request) :
    (∃ q, (s.serveFrame r).link = .answered (responseFrame r.tag ⟨.done, q⟩))
      ∨ ∃ l b m q, s.serveFrame r = { s with link := l, lastRejected := b, miso := m, scan := q } := by
  obtain ⟨-, hr⟩ | ⟨-, hr⟩ | ⟨serve, ho, hr⟩ := s.serveFrame_cases r
  · rw [hr]
    exact .inr (s.requestFindNear_frame _ _)
  · rw [hr]
    exact .inr (s.linkReset_frame _ _)
  · rw [hr]
    obtain hdone | ⟨l, b, m, h⟩ := s.request_done_or_frame r.tag r.payload ho.unchanged
    · exact .inl hdone
    · exact .inr ⟨l, b, m, s.scan, h⟩

/-- Settles O13: no owner changes its state without answering DONE. -/
theorem refusalsChangeNothing : Obligations.RefusalsChangeNothing := by
  intro i r s t hr h hnot
  rw [exec_of_request hr] at h
  cases h
  obtain ⟨q, hdone⟩ | ⟨l, b, m, q, h⟩ := s.serveFrame_done_or_frame r
  · exact absurd hdone (hnot q)
  · rw [h]

end Sys2Proof.Machine
end

section
/-! The status byte and ATTN, and the requests on notices (R182, R190 to R192, R198). -/

namespace Sys2Proof.Machine

/-! ## The status byte -/

/-- A byte made of a link code and three flags shows each of them (R198). -/
theorem statusBits (code : Fin 3) (a l b : Bool) :
    let x : Byte := BitVec.ofNat 8 (64 * code.val + (if a then 32 else 0) + (if l then 16 else 0)
      + (if b then 8 else 0))
    x.toNat / 64 = code ∧ x.getLsbD 5 = a ∧ x.getLsbD 4 = l ∧ x.getLsbD 3 = b ∧ x.toNat % 8 = 0 := by
  revert code a l b
  decide

theorem LinkState.code_lt (l : LinkState) : l.code < 3 := by
  cases l <;> simp [LinkState.code]

theorem State.revisionBusy_eq (s : State) :
    s.revisionBusy = decide (s.revQueue ≠ [] ∨ s.inFlight ≠ none) := by
  rw [State.revisionBusy, Bool.eq_iff_iff]
  simp [Option.isSome_iff_ne_none]

/-! ## ATTN -/

/-- Each position below 19 is a notice's (R199). -/
theorem Notice.exists_position {j : Nat} (hj : j < 19) : ∃ n : Notice, n.position = j := by
  have hall : ∀ j : Fin 19, (Notice.inOrder[j.val]?.map Notice.position) = some j.val := by decide
  obtain ⟨n, -, hn⟩ := Option.map_eq_some_iff.1 (hall ⟨j, hj⟩)
  exact ⟨n, hn⟩

/-- A flag common to two sets is that of a notice in both. -/
theorem NoticeSet.and_ne_zero_iff {a m : NoticeSet} :
    a &&& m ≠ 0 ↔ ∃ n : Notice, a.getLsbD n.position = true ∧ m.getLsbD n.position = true := by
  constructor
  · intro hne
    by_contra hnone
    refine hne (BitVec.eq_of_getLsbD_eq fun j hj => ?_)
    obtain ⟨n, rfl⟩ := Notice.exists_position hj
    rw [BitVec.getLsbD_and, BitVec.ofNat_eq_ofNat, BitVec.getLsbD_zero, Bool.and_eq_false_imp]
    exact fun ha => Bool.eq_false_iff.2 fun hm => hnone ⟨n, ha, hm⟩
  · rintro ⟨n, ha, hm⟩ hzero
    have := congrArg (·.getLsbD n.position) hzero
    simp [ha, hm] at this

/-- On a running part outside a start-up ATTN is the enabled notices (R190). -/
theorem State.attn_of_up {s : State} (hrun : s.running = true) (hup : s.startup = false) :
    s.attn = ((s.notices &&& s.noticeMask) != 0) := by
  rw [State.attn, hrun, hup]
  rfl

/-- Settles O10: the byte's bits by its link code and flags, and ATTN by the notices' positions. -/
theorem statusByteAndAttn : Obligations.StatusByteAndAttn := by
  intro s
  obtain ⟨hlink, hattn, hrejected, hbusy, hlow⟩ :=
    statusBits ⟨s.link.code, s.link.code_lt⟩ s.attn s.lastRejected s.revisionBusy
  refine ⟨hlink, hattn, hrejected, hbusy.trans s.revisionBusy_eq, hlow, fun hrun hup => ?_,
    fun hup => ?_⟩
  · rw [State.attn_of_up hrun hup, bne_iff_ne]
    exact NoticeSet.and_ne_zero_iff
  · rw [State.attn, hup, Bool.not_true, Bool.and_false, Bool.false_and]

/-! ## CLEAR_NOTICES and SET_NOTICE_MASK -/

/-- A 4-byte operand names the notices at its set bits (R191, R199). -/
theorem getLsbD_noticesOf {p : List Byte} (hp : p.length = 4) {j : Nat} (hj : j < 19) :
    (noticesOf p).getLsbD j = (beNat p).testBit j := by
  rw [noticesOf, fieldNat, fieldBytes, List.drop_zero, List.take_of_length_le hp.le,
    BitVec.getLsbD_ofNat, decide_eq_true hj, Bool.true_and]

/-- A flag stays set unless it is cleared. -/
theorem NoticeSet.getLsbD_and_not (a m : NoticeSet) (j : Nat) :
    (a &&& ~~~m).getLsbD j = (a.getLsbD j && !m.getLsbD j) := by
  rw [BitVec.getLsbD_and, BitVec.getLsbD_not]
  by_cases hj : j < 19
  · rw [decide_eq_true hj, Bool.true_and]
  · rw [BitVec.getLsbD_of_ge a j (Nat.not_lt.1 hj), Bool.false_and, Bool.false_and]

/-- Settles O11: each request is the write of one field, and ATTN is read off the state after it. -/
theorem noticeRequestsServed : Obligations.NoticeRequestsServed := by
  intro tag p s hs hp
  obtain ⟨hrun, hup, -⟩ := id hs
  exact ⟨fun j hj => getLsbD_noticesOf hp hj,
    ⟨{ s with notices := s.notices &&& ~~~noticesOf p },
      congrArg Host.Outcome.next (State.request_fixedForm hs hp (by decide) tag
        fun p s => clearNotices (noticesOf p) s),
      rfl, NoticeSet.getLsbD_and_not _ _, State.attn_of_up hrun hup⟩,
    ⟨{ s with noticeMask := noticesOf p },
      congrArg Host.Outcome.next (State.request_fixedForm hs hp (by decide) tag
        fun p s => setNoticeMask (noticesOf p) s),
      rfl, State.attn_of_up hrun hup⟩⟩

end Sys2Proof.Machine
end

section
/-! The lengths of the read answers of R200 before any cut, from the widths of their fields (R199). -/

namespace Sys2Proof.Machine

/-! ## The widths of fields -/

@[simp] theorem length_yesNo (b : Bool) : (yesNo b).length = 1 := rfl

@[simp] theorem length_timeBytes (t : Nat) : (timeBytes t).length = 6 := by simp [timeBytes]

@[simp] theorem length_optionalNat (n : Nat) (v : Option Nat) : (optionalNat n v).length = 1 + n := by
  cases v <;> simp [optionalNat, Nat.add_comm]

@[simp] theorem length_optionalInt (n : Nat) (v : Option Int) : (optionalInt n v).length = 1 + n := by
  cases v <;> simp [optionalInt, Nat.add_comm]

@[simp] theorem length_optionalCode (v : Option Nat) : (optionalCode v).length = 1 := by
  cases v <;> simp [optionalCode]

@[simp] theorem length_optionalTime (t : Option Nat) : (optionalTime t).length = 7 := by
  cases t <;> simp [optionalTime]

/-- A list of entries that all have one width. -/
theorem length_flatMap_of_width {α : Type} {f : α → List Byte} {n : Nat} (h : ∀ a, (f a).length = n)
    (l : List α) : (l.flatMap f).length = n * l.length := by
  simp [List.length_flatMap, h, Nat.mul_comm]

/-! ## The parts of the answers -/

@[simp] theorem length_stepBytes (k : TideStep) : (stepBytes k).length = 15 := by simp [stepBytes]

@[simp] theorem length_countsBytes (k : OccCounts) : (countsBytes k).length = 16 := by
  simp [countsBytes]

/-- An OPEN record and any other show the engine in as many bytes (R69). -/
@[simp] theorem length_engineBytes (o : Occupation) (e : Engine) : (engineBytes o e).length = 3 := by
  unfold engineBytes
  split <;> simp

@[simp] theorem State.length_midBytes (s : State) (n : Nat) : (s.midBytes n).length = 6 := by
  simp [State.midBytes]

@[simp] theorem length_sampleBytes (x : Sample) : (sampleBytes x).length = 21 := by
  simp [sampleBytes, flagsByte]

@[simp] theorem length_engineStatusBytes (e : Engine) : (engineStatusBytes e).length = 3 := by
  simp [engineStatusBytes]

@[simp] theorem length_noticeBytes (n : NoticeSet) : (noticeBytes n).length = 4 := length_beBytes _ _

/-! ## The answers -/

theorem length_stationBytes (k : Nat) {st : Station} (h : st.name.length ≤ 12) :
    (stationBytes k st).length = 48 + 2 * st.chain.length := by
  simp only [stationBytes, List.length_append, length_beBytes, length_beSignedBytes,
    length_nameBytes h, length_optionalInt, length_yesNo, length_flatMap_of_width (length_beBytes 2)]

theorem length_occupationBytes (n : Nat) (o : Occupation) (e : Engine) :
    (occupationBytes n o e).length = 80 + 15 * o.steps.length := by
  unfold occupationBytes
  simp only [List.length_append, length_beBytes, length_optionalCode, length_engineBytes,
    length_yesNo, length_timeBytes, length_countsBytes, length_optionalNat, length_optionalInt,
    length_flatMap_of_width length_stepBytes]

/-- A closed loop and one without a closer have one layout: the closer is sent as present or absent. -/
theorem State.length_loopBytes (s : State) (k : Nat) (l : Loop) :
    (s.loopBytes k l).length = 26 + 6 * l.members.length := by
  simp only [State.loopBytes, List.length_append, length_beBytes, s.length_midBytes,
    length_optionalInt, length_flatMap_of_width s.length_midBytes]
  cases l.closer <;> simp

/-- A head without a sample yet sends as many bytes as one that holds its last sample. -/
theorem State.length_headBytes (s : State) (h : Head) : (s.headBytes h).length = 60 := by
  simp only [State.headBytes, List.length_append, length_beBytes, length_optionalNat]
  cases (s.channels.get h).lastSample <;> simp

theorem State.length_statusBytes (s : State) : s.statusBytes.length = 29 := by
  have hheads : (allHeads.flatMap fun h => engineStatusBytes (s.engines.get h)).length = 12 :=
    length_flatMap_of_width (fun _ => length_engineStatusBytes _) allHeads
  simp only [State.statusBytes, List.length_append, hheads, length_beBytes, length_yesNo,
    length_noticeBytes]
  cases s.inFlight <;> simp

theorem State.length_timeAnswerBytes (s : State) : s.timeAnswerBytes.length = 22 := by
  simp [State.timeAnswerBytes]

/-- Settles O16, answer by answer. -/
theorem answerLengths : Obligations.AnswerLengths :=
  ⟨fun k _ => length_stationBytes k, length_occupationBytes, State.length_loopBytes,
    State.length_headBytes, State.length_statusBytes, State.length_timeAnswerBytes⟩

end Sys2Proof.Machine
end

section
/-! The step on a queue that holds a command (log 2). -/

namespace Sys2Proof.Machine

/-- The front command runs on the state with the rest of the queue (log 2). -/
theorem step_of_pending_cons {s : State} {c : Instr} {rest : List Instr}
    (h : s.pending = c :: rest) : step s = exec c (s.withPending rest) := by
  rw [step, h]

/-- Settles O1: the state the front command runs on is the one with the rest of the queue. -/
theorem stepRunsFrontCommand : Obligations.StepRunsFrontCommand :=
  fun _ _ _ => step_of_pending_cons

end Sys2Proof.Machine
end
